-- ==== Sys2Proof/Word.lean ====
section
/-! DEFINITION. The words of the ZH-24C: frame bytes, 16-bit fields, air-clock instants (R1) and sixteenths (R6). -/

namespace Sys2Proof

/-- One byte of a frame (R182). -/
abbrev Byte := BitVec 8

/-- A 16-bit frame field, least significant byte first on the line (R182). -/
abbrev Half := BitVec 16

/-- A value of the air clock: 32 bits, one count per microsecond, wrapping (R1). -/
abbrev Instant := BitVec 32

/-- A quantity in sixteenths of a microsecond, taken modulo 2^36 (R6). -/
abbrev Sixteenth := BitVec 36

end Sys2Proof
end

