-- ==== Sys2Proof/Syntax.lean ====
section
/-! DEFINITION. The commands of the ZH-24C, one constructor per row of spec/opcode_table.json. A request carries the
ticket and the payload fields of its frame, in the order of R196; an event carries what the part does not hold itself. -/

namespace Sys2Proof

/-- The three bytes that give one rule in a SET_RULES request (R114). -/
structure RuleBytes where
  predicate : Byte
  invert : Byte
  action : Byte
  deriving DecidableEq, Repr

/-- A command: a host request, or an event of the line, the pins, the radio or the part's own timing. -/
inductive Instr where
  -- Link requests (chapter 10)
  | ident (ticket : Byte)
  | status (ticket : Byte)
  | time (ticket : Byte)
  | setReports (ticket enables : Byte)
  | clearFlags (ticket flags count : Byte)
  -- Mode requests (chapter 9)
  | restart (ticket kind : Byte)
  | start (ticket mode : Byte)
  | stop (ticket : Byte)
  | setMode (ticket mode : Byte)
  | resume (ticket : Byte)
  -- Sense receiver and dwell scheduler requests (chapters 2 and 3)
  | setDetect (ticket threshold structured : Byte) (tail mergeGap : Half)
  | setScan (ticket count : Byte) (channels : List Byte) (interleave : Byte) (operating offChannel margin : Half)
  | setChannel (ticket channel : Byte)
  | survey (ticket channel : Byte) (duration : Half)
  | readChannels (ticket : Byte)
  | ranking (ticket : Byte)
  -- Tracking unit requests (chapter 4)
  | declareBeacon (ticket channel : Byte) (interval airtime : Half)
  | forget (ticket id : Byte)
  | readTracker (ticket id : Byte)
  | setTracking (ticket : Byte) (guardBase beaconGuard : Half) (rate : Byte) (guardCap : Half)
      (lockRun missLimit : Byte)
  -- Window planner requests (chapters 6 and 7)
  | setRules (ticket count : Byte) (rules : List RuleBytes) (threshold : Half)
  | readRules (ticket : Byte)
  | armTemplate (ticket : Byte) (margin : Option Half)
  | dropTemplate (ticket : Byte)
  | book (ticket lane tag : Byte) (length earliest deadline : Half)
  | cancel (ticket lane tag : Byte)
  | seriesOpen (ticket lane tag : Byte) (period length slide : Half)
  | seriesClose (ticket lane tag : Byte)
  | setLanes (ticket reserveA reserveB : Byte)
  | readBookings (ticket part : Byte)
  -- Escalation unit requests (chapter 8)
  | setEscalation (ticket threshold policy : Byte)
  | readFault (ticket : Byte)
  | clearFault (ticket : Byte)
  -- Serial line events (chapter 10)
  /-- The eight data bits of a character and whether its stop bit was sampled high (R181). -/
  | characterReceived (data : Byte) (stopHigh : Bool)
  | frameComplete
  | frameTimeout
  | rxdLowTimeout
  | rxdBreak
  | frameTransmitted
  -- Reset events (chapters 1 and 9)
  | resetNLow
  | powerUp
  /-- The levels of RXD and TXON at the instant the part leaves reset (R33, R195). -/
  | leaveReset (rxdHigh txonHigh : Bool)
  -- Sense receiver events (chapter 2)
  | txonRise
  | txonFall
  | blankingEnd
  | settlingEnd
  /-- The level of the reading in whole dBm, rounded down, and whether the preamble correlator finds a preamble in the
  20 µs that end with this reading (R15, R19). -/
  | energyReading (level : Int) (preamble : Bool)
  | longBurstCut
  | gapEndRelease
  | spanLimitRelease
  -- Escalation unit and dwell scheduler events
  | scoreDrain
  | dwellEnd
  | observedSinceAdvance
  -- Tracking unit events; each names the tracker entry it concerns
  | riseTest (id : Nat)
  | candidateExpiry (id : Nat)
  | trackerAgeLimit (id : Nat)
  | dormantAgeLimit (id : Nat)
  | guardStep (id : Nat)
  -- Window planner events
  | windowEdge
  | templateAnchorAdvance
  | commitPoint
  | windowStart
  | windowEnd
  | seriesRetry
  | rxdReturnsHigh
  deriving DecidableEq, Repr

end Sys2Proof
end

