-- ==== Sys2Proof/Config.lean ====
section
/-! DEFINITION. The free values: what the spec leaves open and no proof can see through. -/

namespace Sys2Proof

/-- Which of several events due at one instant is taken first, as a free value of the number of choices made so
far. Many rules say that either of two events of one instant may be taken first (R73, R75, R132, R135, R154, ...). -/
opaque Config.choice : Nat → Nat

/-- The time code of a value that no scale of R9 can carry. R9 says that the part never encodes such a value
(DESIGN CHOICE, a free value: log 8). -/
opaque Config.unscaledTimeCode : Nat → Half

end Sys2Proof
end

