-- ==== Sys2Proof/Machine/State.lean ====
section
/-! DEFINITION. The state of the ZH-24C as plain data, one structure per block (00_scope.md Table 2), and the state
right after reset. -/

namespace Sys2Proof.Machine

/-! ### Names of modes, states and causes -/

/-- The five operating modes (R166). -/
inductive Mode where
  | standby | observe | active | fallback | hold
  deriving DecidableEq, Repr

/-- A restart mark that is set, and the kind of a restart (R166, R174). -/
inductive RestartKind where
  | warm | cold
  deriving DecidableEq, Repr

/-- What holds the part in reset (R12, R177). -/
inductive ResetHold where
  | resetPin | powerUp
  deriving DecidableEq, Repr

/-- The window code on WIN1 and WIN0 (R11, Table 1-7). -/
inductive WindowCode where
  | shut | openAir | rsvA | rsvB
  deriving DecidableEq, Repr

/-- A lane of reserved traffic (Table 7-1). -/
inductive Lane where
  | a | b
  deriving DecidableEq, Repr

/-! ### Sense receiver (chapter 2) -/

/-- The four detector settings (R31). -/
structure DetectSettings where
  threshold : Int
  structuredOn : Bool
  tail : Nat
  mergeGap : Nat
  deriving DecidableEq, Repr

/-- Tuning status; SETTLING carries the instant at which it ends (R13). -/
inductive Tuning where
  | idle
  | settling (endsAt : Instant)
  | settled
  deriving DecidableEq, Repr

/-- Blanking; an active blanking carries its tail's end once TXON has fallen, none while TXON is high (R20). -/
inductive Blanking where
  | inactive
  | active (tailEnd : Option Instant)
  deriving DecidableEq, Repr

/-- A run of readings at or above the threshold: its count, the instant of its first reading and the window code shown
at that instant (R16, R27). -/
structure Run where
  count : Nat
  first : Instant
  code : WindowCode
  deriving DecidableEq, Repr

/-- A burst in progress (R16, R27). -/
structure Burst where
  start : Instant
  last : Instant
  structured : Bool
  cutAtStart : Bool
  code : WindowCode
  deriving DecidableEq, Repr

/-- Progress of burst start and end detection (R16, R18). -/
inductive Detector where
  | quiet (run : Run)
  | inBurst (below : Nat) (burst : Burst)
  deriving DecidableEq, Repr

/-- A burst record: the fields of Table 2-2 and the window code noted at its start (R27). -/
structure BurstRecord where
  channel : Nat
  start : Instant
  finish : Instant
  duration : Nat
  structured : Bool
  truncated : Bool
  cutAtStart : Bool
  long : Bool
  code : WindowCode
  deriving DecidableEq, Repr

/-- The burst assembler's content: a record and its gap end instant (R23). -/
structure HeldRecord where
  record : BurstRecord
  gapEnd : Instant
  deriving DecidableEq, Repr

/-- State of the sense receiver (Table 2-1). `restartPoint` and `restartCode` are the last restart point and the code shown
there (R17, R27), `readingCode` the code shown at the instant of the reading in progress (R27), and `readingTaken` tells
whether the reading that ends at the present instant has been taken (R15). -/
structure Sense where
  tuned : Option Nat
  tuning : Tuning
  blanking : Blanking
  observedSince : Option Instant
  detector : Detector
  fresh : Bool
  restartPoint : Instant
  restartCode : WindowCode
  readingCode : WindowCode
  readingTaken : Bool
  held : Option HeldRecord
  settings : DetectSettings
  pendingSettings : Option DetectSettings
  deriving DecidableEq, Repr

/-! ### Dwell scheduler (chapter 3) -/

/-- How many off-channel dwells follow an operating dwell: one, or three (R36, R39). -/
inductive Interleave where
  | alternate | sparse
  deriving DecidableEq, Repr

/-- A scan plan (R36). -/
structure ScanPlan where
  channels : List Nat
  interleave : Interleave
  operatingLength : Nat
  offChannelLength : Nat
  margin : Nat
  deriving DecidableEq, Repr

inductive DwellKind where
  | operating | offChannel | survey
  deriving DecidableEq, Repr

/-- The current dwell (Table 3-2). -/
structure Dwell where
  kind : DwellKind
  channel : Nat
  start : Instant
  plannedEnd : Instant
  busy : Nat
  unstructuredBusy : Nat
  observed : Nat
  structuredCount : Nat
  unstructuredCount : Nat
  deriving DecidableEq, Repr

inductive SurveyPhase where
  | none | waiting | dwelling
  deriving DecidableEq, Repr

/-- The survey record (Table 3-5). -/
structure Survey where
  phase : SurveyPhase
  channel : Nat
  duration : Nat
  trackers : List Nat
  deriving DecidableEq, Repr

/-- A channel record; the record's own channel is its place in the list of 13 (Table 3-4). -/
structure ChannelRecord where
  visited : Bool
  load : Nat
  unstructuredLoad : Nat
  lastVisitEnd : Instant
  visits : Nat
  deriving DecidableEq, Repr

/-- The advice state (R50). -/
structure Advice where
  armed : Bool
  passes : Nat
  deriving DecidableEq, Repr

/-- State of the dwell scheduler. `group` counts the off-channel dwells since the last operating dwell, surveys apart,
and `forceOperating` says that the next dwell of the sequence is an operating dwell (R35, R37, R39, R41). -/
structure Dwells where
  operating : Option Nat
  plan : ScanPlan
  pendingPlan : Option ScanPlan
  pointer : Nat
  group : Nat
  forceOperating : Bool
  current : Option Dwell
  survey : Survey
  records : List ChannelRecord
  advice : Advice
  deriving DecidableEq, Repr

/-! ### Tracking unit (chapters 4 and 5) -/

inductive TrackerKind where
  | oven | beacon
  deriving DecidableEq, Repr

inductive TrackerState where
  | free | candidate | acquiring | locked | dormant
  deriving DecidableEq, Repr

/-- A predicted rise whose miss decision is deferred, with the capture half-width at its test instant (R72, R73).
`retest` says that RELEARN has moved its test instant to one still to come (R156; DEDUCED: log 13). -/
structure PendingRise where
  rise : Sixteenth
  halfWidth : Nat
  retest : Bool
  deriving DecidableEq, Repr

/-- A tracker entry (Table 4-1), and the number `nextRise` of the next rise E_k it decides (R72; DEDUCED:
log 27). -/
structure Tracker where
  kind : TrackerKind
  state : TrackerState
  rise : Instant
  span : List Nat
  channel : Nat
  anchored : Bool
  period : Nat
  anchor : Sixteenth
  onDuration : Nat
  run : Nat
  misses : Nat
  slips : Nat
  slipOverflow : Bool
  hits : Nat
  lastHit : Option Instant
  pendingRise : Option PendingRise
  nextRise : Nat
  deriving DecidableEq, Repr

/-- The six tracking settings (Table 4-4). -/
structure TrackSettings where
  guardBase : Nat
  beaconGuard : Nat
  wideningRate : Nat
  guardCap : Nat
  lockRun : Nat
  missLimit : Nat
  deriving DecidableEq, Repr

/-- State of the tracking unit: 12 entries, ids 0 to 11 by place, and the settings (R58, R81). -/
structure Tracking where
  entries : List Tracker
  settings : TrackSettings
  deriving DecidableEq, Repr

/-! ### Window planner (chapters 6 and 7) -/

/-- The six predicates of Table 6-2. -/
inductive Predicate where
  | ovenLocked | ovenAcq | beacon | anyLock | loadHigh | always
  deriving DecidableEq, Repr

/-- The action of a rule (R107). -/
inductive Action where
  | shut | openAir
  deriving DecidableEq, Repr

/-- A rule of the rule list (R107). -/
structure Rule where
  predicate : Predicate
  invert : Bool
  action : Action
  deriving DecidableEq, Repr

/-- The fallback template when present (R119). -/
structure Template where
  period : Nat
  anchor : Sixteenth
  onDuration : Nat
  ovenGuard : Nat
  margin : Nat
  deriving DecidableEq, Repr

/-- What asked for a reservation: a one-shot with its tag, or a series by id (Table 7-1). -/
inductive Origin where
  | oneShot (tag : Byte)
  | series (id : Nat)
  deriving DecidableEq, Repr

inductive EntryState where
  | pending | committed | opened
  deriving DecidableEq, Repr

/-- A reservation entry (Table 7-1). -/
structure Reservation where
  lane : Lane
  origin : Origin
  start : Instant
  length : Nat
  deadline : Instant
  state : EntryState
  deriving DecidableEq, Repr

inductive SeriesState where
  | running | suspended
  deriving DecidableEq, Repr

/-- A series record (Table 7-4). -/
structure Series where
  id : Nat
  lane : Lane
  tag : Byte
  period : Nat
  length : Nat
  slide : Nat
  anchor : Instant
  index : Nat
  consecutiveSkips : Nat
  totalSkips : Nat
  state : SeriesState
  retry : Option Instant
  deriving DecidableEq, Repr

/-- State of the window planner (Tables 6-1, 7-1, 7-4, R124). -/
structure Planner where
  rules : List Rule
  loadThreshold : Nat
  template : Option Template
  lines : WindowCode
  queue : List Reservation
  reserveA : Nat
  reserveB : Nat
  series : List Series
  deriving DecidableEq, Repr

/-! ### Escalation unit (chapter 8) and mode controller (chapter 9) -/

/-- The escalation policies (R163). -/
inductive Policy where
  | report | relearn | fallback | hold
  deriving DecidableEq, Repr

/-- The action an escalation took (R156, R157). -/
inductive ActionTaken where
  | none | relearn | fallback | hold
  deriving DecidableEq, Repr

/-- A filled fault record (Table 8-4). -/
structure FaultRecord where
  instant : Instant
  channel : Nat
  modeBefore : Mode
  policy : Policy
  action : ActionTaken
  surpriseStart : Instant
  surpriseDuration : Nat
  further : Nat
  deriving DecidableEq, Repr

/-- State of the escalation unit (Table 8-1); no fault record is the empty one. `drained` tells whether the drain of the
present instant has been taken (R153). -/
structure Escalation where
  score : Nat
  threshold : Nat
  policy : Policy
  fault : Option FaultRecord
  drained : Bool
  deriving DecidableEq, Repr

/-- State of the mode controller (R166), and what holds the part in reset (R177). `modeReplies` counts the replies of
SET_MODE and RESUME that carry a mode and were formed at the present instant, from the first change of mode on (R173;
DESIGN CHOICE: log 33). -/
structure Control where
  mode : Mode
  mark : Option RestartKind
  hold : Option ResetHold
  modeReplies : Nat
  deriving DecidableEq, Repr

/-! ### Link controller (chapter 10) -/

/-- A frame without its SYNC, LEN and CRC, which follow from it (R182). -/
structure Frame where
  kind : Byte
  ticket : Byte
  payload : List Byte
  deriving DecidableEq, Repr

/-- Progress of the frame being received; each state but HUNTING carries the instant of the SYNC's start bit and the
bytes received. In CHECK the CRC byte is held once it has been taken (R184). -/
inductive Receiver where
  | hunting
  | header (syncAt : Instant) (bytes : List Byte)
  | payload (syncAt : Instant) (len kind ticket : Byte) (bytes : List Byte)
  | check (syncAt : Instant) (len kind ticket : Byte) (bytes : List Byte) (crc : Option Byte)
  deriving DecidableEq, Repr

/-- A low level on RXD being measured: the instant of its fall and whether it has already brought its restart
(R176). -/
structure LowLevel where
  fall : Instant
  restarted : Bool
  deriving DecidableEq, Repr

/-- The frame on TXD and the instant at which its last stop bit ends (R189). -/
structure Sending where
  frame : Frame
  endsAt : Instant
  deriving DecidableEq, Repr

/-- The sticky flags (R192). -/
structure StickyFlags where
  slipOvf : Bool
  escalated : Bool
  reportLost : Bool
  deriving DecidableEq, Repr

/-- State of the link controller (Table 10-1). `flagsBefore` and `errorsBefore` are the flags and the count as the present
instant found them, less what a CLEAR_FLAGS of this instant has cleared (R192; DESIGN CHOICE: log 38). -/
structure Link where
  receiver : Receiver
  waitHigh : Bool
  rxdLow : Option LowLevel
  inbox : List Frame
  replies : List Frame
  reports : List Frame
  sending : Option Sending
  enables : Byte
  lostPending : Bool
  flags : StickyFlags
  errors : Nat
  flagsBefore : StickyFlags
  errorsBefore : Nat
  deriving DecidableEq, Repr

/-! ### The whole part -/

/-- The state of the part, with the queue of the commands that wait. `choices` counts the free choices the idle step
has made between events due at one instant. -/
structure State where
  airClock : Instant
  sense : Sense
  dwells : Dwells
  tracking : Tracking
  planner : Planner
  escalation : Escalation
  control : Control
  link : Link
  choices : Nat
  pending : List Instr
  deriving DecidableEq, Repr

/-- Why a step stops with a fault. No meaning raises one: the spec gives the part no fault that stops it. -/
inductive Fault where
  /-- Raised by nobody (safe): it stands so that the type of faults is not empty. -/
  | neverRaised
  deriving DecidableEq, Repr

/-- Why a step is refused. -/
inductive Refusal where
  /-- Raised by an arm of `exec` whose command has no meaning yet (safe); no arm is such an arm. -/
  | notModelled (mnemonic : String)
  deriving DecidableEq, Repr

/-! ### Values after a cold start, block by block -/

/-- The run of a quiet detector that has counted nothing. -/
def Run.empty : Run := { count := 0, first := 0, code := .openAir }

/-- The default detector settings (R31). -/
def DetectSettings.default : DetectSettings :=
  { threshold := -72, structuredOn := true, tail := 30, mergeGap := 500 }

/-- The sense receiver after a cold start with TXON low (R33; the restart point and the two noted codes are a DESIGN CHOICE: log 5). -/
def Sense.cold : Sense :=
  { tuned := none, tuning := .idle, blanking := .inactive, observedSince := none, detector := .quiet Run.empty
    fresh := true, restartPoint := 0, restartCode := .openAir, readingCode := .openAir, readingTaken := false
    held := none, settings := DetectSettings.default, pendingSettings := none }

/-- The scan plan after a cold start (Table 3-1, R57). -/
def ScanPlan.default : ScanPlan :=
  { channels := [], interleave := .alternate, operatingLength := 200000, offChannelLength := 40000, margin := 150 }

/-- An unvisited channel record (R44). -/
def ChannelRecord.unvisited : ChannelRecord :=
  { visited := false, load := 0, unstructuredLoad := 0, lastVisitEnd := 0, visits := 0 }

/-- No survey in flight (R57). -/
def Survey.idle : Survey := { phase := .none, channel := 0, duration := 0, trackers := [] }

/-- The advice state as every re-arming leaves it (R51). -/
def Advice.rearmed : Advice := { armed := true, passes := 0 }

/-- The dwell scheduler after a cold start (R57; `group` and `forceOperating` are a DESIGN CHOICE: log 6). -/
def Dwells.cold : Dwells :=
  { operating := none, plan := ScanPlan.default, pendingPlan := none, pointer := 0, group := 0
    forceOperating := false, current := none, survey := Survey.idle
    records := List.replicate 13 ChannelRecord.unvisited, advice := Advice.rearmed }

/-- A FREE entry, with all its fields cleared (R71, R78). -/
def Tracker.free : Tracker :=
  { kind := .oven, state := .free, rise := 0, span := [], channel := 0, anchored := false, period := 0, anchor := 0
    onDuration := 0, run := 0, misses := 0, slips := 0, slipOverflow := false, hits := 0, lastHit := none
    pendingRise := none, nextRise := 0 }

/-- The default tracking settings (Table 4-4). -/
def TrackSettings.default : TrackSettings :=
  { guardBase := 300, beaconGuard := 100, wideningRate := 20, guardCap := 1500, lockRun := 6, missLimit := 8 }

/-- The tracking unit after a cold start (R86). -/
def Tracking.cold : Tracking :=
  { entries := List.replicate 12 Tracker.free, settings := TrackSettings.default }

/-- A disabled rule (R107). -/
def Rule.disabled : Rule := { predicate := .always, invert := true, action := .openAir }

/-- The default rule list (Table 6-3). -/
def defaultRules : List Rule :=
  [{ predicate := .ovenLocked, invert := false, action := .shut },
   { predicate := .ovenAcq, invert := false, action := .shut },
   { predicate := .always, invert := false, action := .openAir },
   Rule.disabled, Rule.disabled, Rule.disabled, Rule.disabled, Rule.disabled]

/-- The window planner after a cold start (R113, R122, R124, R148, R11). -/
def Planner.cold : Planner :=
  { rules := defaultRules, loadThreshold := 600, template := none, lines := .openAir, queue := []
    reserveA := 2, reserveB := 2, series := [] }

/-- The escalation unit after a cold start (R164). -/
def Escalation.cold : Escalation := 
  { score := 0, threshold := 4, policy := .report, fault := none, drained := false }

/-- The mode controller after a restart, out of reset (R178). -/
def Control.restarted : Control := { mode := .standby, mark := none, hold := none, modeReplies := 0 }

/-- All sticky flags clear (R195). -/
def StickyFlags.clear : StickyFlags := { slipOvf := false, escalated := false, reportLost := false }

/-- The report enables of Table 10-4: MODE, DISPLACED, REBASE, SURVEY_DONE, ADVICE and ESCALATION. -/
def defaultEnables : Byte := 0xF9#8

/-- The link controller after a cold start with RXD high (R195). -/
def Link.cold : Link :=
  { receiver := .hunting, waitHigh := false, rxdLow := none, inbox := [], replies := [], reports := []
    sending := none, enables := defaultEnables, lostPending := false, flags := StickyFlags.clear, errors := 0
    flagsBefore := StickyFlags.clear, errorsBefore := 0 }

/-- Every block at its cold-start values (R178), out of reset, before the MODE report of R179 is handed over. -/
def State.cold : State :=
  { airClock := 0, sense := Sense.cold, dwells := Dwells.cold, tracking := Tracking.cold, planner := Planner.cold
    escalation := Escalation.cold, control := Control.restarted, link := Link.cold, choices := 0, pending := [] }

/-- The MODE report of a power-up: flags 0, STANDBY to STANDBY, cause POWER_UP, instant 0 (R179, Table 10-12). -/
def powerUpReport : Frame := { kind := 0xC0#8, ticket := 0, payload := [0, 0, 0, 5, 0, 0, 0, 0] }

/-- The part right after reset: it has just left a power-up reset with RXD high and TXON low, every block holds its
cold-start values (R177), and the MODE report of R179 is the first frame on TXD: 13 bytes, 130 µs (R189).
DESIGN CHOICE: log 3. -/
def State.reset : State :=
  { State.cold with link := { Link.cold with sending := some { frame := powerUpReport, endsAt := 130 } } }

/-- A new state with the given waiting commands. -/
def State.withPending (s : State) (cs : List Instr) : State := { s with pending := cs }

end Sys2Proof.Machine
end

