-- ==== Sys2Proof/Machine/Time.lean ====
section
/-! DEFINITION. Instants, durations, sixteenths and roundings (chapter 1 and R87). -/

namespace Sys2Proof.Machine

/-! ### Instants (R3, R4) -/

/-- `a` is before `b` by the half-range comparison (R3). -/
def Instant.before (a b : Instant) : Bool := decide (1 ≤ (b - a).toNat ∧ (b - a).toNat < 2147483648)

/-- `a` is at or before `b` by the half-range comparison (R3). -/
def Instant.atOrBefore (a b : Instant) : Bool := decide ((b - a).toNat < 2147483648)

/-- The length of the stretch from `a` to `b`, and the age of `a` at `b` (R4). -/
def Instant.elapsed (a b : Instant) : Nat := (b - a).toNat

/-- A duration added to an instant (R4). -/
def Instant.plus (x : Instant) (d : Nat) : Instant := x + BitVec.ofNat 32 d

/-- A duration taken from an instant (R4). -/
def Instant.minus (x : Instant) (d : Nat) : Instant := x - BitVec.ofNat 32 d

/-- An instant `o` microseconds after `x`, or before it when `o` is negative (R4). -/
def Instant.shift (x : Instant) (o : Int) : Instant := x + BitVec.ofInt 32 o

/-- The signed distance from `base` to `x`: positive when `x` is after `base` (R3, R4). -/
def Instant.offset (base x : Instant) : Int := (x - base).toInt

/-- `x` lies in the stretch of length `len` that begins at `a`: its start included, its end not. -/
def Instant.within (a : Instant) (len : Nat) (x : Instant) : Bool := decide ((x - a).toNat < len)

/-- `x` lies from `lo` to `hi`, both included. -/
def Instant.between (lo hi x : Instant) : Bool := decide ((x - lo).toNat ≤ (hi - lo).toNat)

/-! ### Sixteenths (R6, R7) -/

/-- An air-clock instant as a sixteenth value, 16t (R6). -/
def Instant.sixteenths (t : Instant) : Sixteenth := BitVec.ofNat 36 (16 * t.toNat)

/-- The downward conversion floor(E/16) (R7). -/
def Sixteenth.down (e : Sixteenth) : Instant := BitVec.ofNat 32 (e.toNat / 16)

/-- The upward conversion ceil(E/16), 2^32 being taken as 0 (R7). -/
def Sixteenth.up (e : Sixteenth) : Instant := BitVec.ofNat 32 ((e.toNat + 15) / 16)

/-- The difference `a - b` of two sixteenth values, read as a signed number (R6). -/
def Sixteenth.diff (a b : Sixteenth) : Int := (a - b).toInt

/-- `n` periods of `p` sixteenths added to `a`, modulo 2^36 (R6, R87). -/
def Sixteenth.plus (a : Sixteenth) (d : Int) : Sixteenth := a + BitVec.ofInt 36 d

/-! ### Roundings of an exact quotient `a / b` with `b` positive (R87) -/

/-- To nearest, halves away from zero. -/
def roundAway (a : Int) (b : Nat) : Int :=
  if 0 ≤ a then (2 * a + b) / (2 * b) else -((2 * (-a) + b) / (2 * b))

/-- The greatest integer at or below the quotient. -/
def floorDiv (a : Int) (b : Nat) : Int := a / b

/-- The least integer at or above the quotient. -/
def ceilDiv (a : Int) (b : Nat) : Int := -((-a) / b)

/-- To nearest, halves to the smaller integer (R89). -/
def roundDown (a : Int) (b : Nat) : Int := -((b - 2 * a) / (2 * b))

/-- A value clamped to `lo` to `hi` (00_scope, Rounding). -/
def clamp (lo hi v : Int) : Int := if v < lo then lo else if hi < v then hi else v

/-- A natural number clamped to `lo` to `hi`. -/
def clampNat (lo hi v : Nat) : Nat := if v < lo then lo else if hi < v then hi else v

/-- One more, held at `top`. -/
def saturate (top n : Nat) : Nat := min top (n + 1)

end Sys2Proof.Machine
end

