-- ==== Sys2Proof/Machine/Operands.lean ====
section
/-! DEFINITION. The forms of frame fields: little-endian words, time codes (R8, R9), the frame and its CRC (R182, R183),
and the codes of enumerated fields (Tables 9-2, 6-2, 10-5, 10-6). -/

namespace Sys2Proof.Machine

/-! ### Little-endian fields (R182) -/

/-- The low byte of a number. -/
def byteOf (n : Nat) : Byte := BitVec.ofNat 8 n

/-- A 16-bit field, least significant byte first. -/
def le16 (h : Half) : List Byte := [h.setWidth 8, (h >>> 8).setWidth 8]

/-- A number as a 16-bit field. -/
def le16n (n : Nat) : List Byte := le16 (BitVec.ofNat 16 n)

/-- A 32-bit field, least significant byte first (R10). -/
def le32 (w : Instant) : List Byte :=
  [w.setWidth 8, (w >>> 8).setWidth 8, (w >>> 16).setWidth 8, (w >>> 24).setWidth 8]

/-- A number as a plain 32-bit field (R10). -/
def le32n (n : Nat) : List Byte := le32 (BitVec.ofNat 32 n)

/-- A sixteenth value in five bytes, the top four bits zero (Table 10-10). -/
def le40 (e : Sixteenth) : List Byte :=
  [e.setWidth 8, (e >>> 8).setWidth 8, (e >>> 16).setWidth 8, (e >>> 24).setWidth 8, (e >>> 32).setWidth 8]

/-- The 16-bit field whose bytes on the line are `lo` and then `hi`. -/
def half (lo hi : Byte) : Half := hi ++ lo

/-- A yes/no field (Table 10-6). -/
def yesNo (b : Bool) : Byte := if b then 1 else 0

/-! ### Time codes (R8, R9) -/

/-- Whether bit 15 is set: a field error (R8). -/
def timeCodeBad (c : Half) : Bool := c.getLsbD 15

/-- The scale s of a time code, bits 14 to 12. -/
def timeCodeScale (c : Half) : Nat := c.toNat / 4096 % 8

/-- The mantissa m of a time code, bits 11 to 0. -/
def timeCodeMantissa (c : Half) : Nat := c.toNat % 4096

/-- The value m × 4^s of a time code in microseconds (R8). -/
def timeCodeValue (c : Half) : Nat := timeCodeMantissa c * 4 ^ timeCodeScale c

/-- ceil(v / 4^s). -/
def mantissaAt (v s : Nat) : Nat := (v + 4 ^ s - 1) / 4 ^ s

/-- The time code the part forms for a value: the smallest scale whose rounded-up mantissa fits (R9). -/
def timeCodeOf (v : Nat) : Half :=
  match [0, 1, 2, 3, 4, 5, 6, 7].find? (fun s => decide (mantissaAt v s ≤ 4095)) with
  | some s => BitVec.ofNat 16 (4096 * s + mantissaAt v s)
  | none => Config.unscaledTimeCode v

/-- A duration as a time-code field (R9). -/
def timeCodeField (v : Nat) : List Byte := le16 (timeCodeOf v)

/-! ### The CRC and the bytes of a frame (R182, R183) -/

/-- One shift of the CRC register: the bit shifted out brings in 0x07. -/
def crcShift (r : Byte) : Byte := if r.getLsbD 7 then (r <<< 1) ^^^ 0x07#8 else r <<< 1

/-- The CRC register after one more byte: combined by exclusive-or, then shifted eight times. -/
def crcByte (r b : Byte) : Byte :=
  crcShift (crcShift (crcShift (crcShift (crcShift (crcShift (crcShift (crcShift (r ^^^ b))))))))

/-- The CRC-8 of bytes in the order sent (R183). -/
def crc8 (bs : List Byte) : Byte := bs.foldl crcByte 0

/-- The bytes the CRC of a frame covers: LEN, KIND, TICKET and payload (R183). -/
def Frame.covered (f : Frame) : List Byte := byteOf f.payload.length :: f.kind :: f.ticket :: f.payload

/-- The bytes of a frame on the line: SYNC, LEN, KIND, TICKET, payload, CRC (Table 10-7). -/
def Frame.bytes (f : Frame) : List Byte := 0xA5#8 :: f.covered ++ [crc8 f.covered]

/-- How long a frame occupies TXD: 10 µs a byte, five bytes beside the payload (R181, R182). -/
def Frame.lineTime (f : Frame) : Nat := 10 * (f.payload.length + 5)

/-- The levels of one character on the line, one a microsecond, true for high: a low start bit, the eight data bits with
the least significant first, and a high stop bit (R181). -/
def characterLevels (b : Byte) : List Bool :=
  [false, b.getLsbD 0, b.getLsbD 1, b.getLsbD 2, b.getLsbD 3, b.getLsbD 4, b.getLsbD 5, b.getLsbD 6, b.getLsbD 7, true]

/-- The levels of a frame on the line: its characters with no idle time between them (R181). -/
def Frame.levels (f : Frame) : List Bool := f.bytes.flatMap characterLevels

/-! ### Status codes (Table 10-5) -/

def stOk : Byte := 0x00#8
def stOkClamped : Byte := 0x01#8
def stGranted : Byte := 0x02#8
def stEndedEarly : Byte := 0x03#8
def stBadLength : Byte := 0x10#8
def stBadArg : Byte := 0x11#8
def stWrongMode : Byte := 0x12#8
def stNoChannel : Byte := 0x13#8
def stBusy : Byte := 0x14#8
def stQueueFull : Byte := 0x15#8
def stNoRoom : Byte := 0x16#8
def stTooLong : Byte := 0x17#8
def stDupTag : Byte := 0x18#8
def stNoSuch : Byte := 0x19#8
def stNoLock : Byte := 0x1A#8
def stNoTemplate : Byte := 0x1B#8
def stTableFull : Byte := 0x1C#8
def stFull : Byte := 0x1D#8
def stBadCrc : Byte := 0x1E#8
def stUnknownKind : Byte := 0x1F#8
def stAborted : Byte := 0x20#8

/-- OK_CLAMPED when any setting was clamped, and OK otherwise. -/
def okOrClamped (clamped : Bool) : Byte := if clamped then stOkClamped else stOk

/-! ### Codes of enumerated fields (Tables 9-2, 6-2 and 10-6) -/

def Mode.code : Mode → Byte
  | .standby => 0 | .observe => 1 | .active => 2 | .fallback => 3 | .hold => 4

/-- The level of WIN1, true for High (Table 1-7). -/
def WindowCode.win1 : WindowCode → Bool
  | .shut => false | .openAir => false | .rsvA => true | .rsvB => true

/-- The level of WIN0, true for High (Table 1-7). -/
def WindowCode.win0 : WindowCode → Bool
  | .shut => false | .openAir => true | .rsvA => false | .rsvB => true

def RestartKind.code : RestartKind → Byte
  | .warm => 0 | .cold => 1

def Lane.code : Lane → Byte
  | .a => 0 | .b => 1

/-- The lane a lane byte names, none for a byte other than 0 or 1. -/
def Lane.ofByte (b : Byte) : Option Lane := if b = 0 then some .a else if b = 1 then some .b else none

def Origin.code : Origin → Byte
  | .oneShot _ => 0xFF#8
  | .series id => byteOf id

def EntryState.code : EntryState → Byte
  | .pending => 0 | .committed => 1 | .opened => 2

def SeriesState.code : SeriesState → Byte
  | .running => 0 | .suspended => 1

def TrackerKind.code : TrackerKind → Byte
  | .oven => 0 | .beacon => 1

def TrackerState.code : TrackerState → Byte
  | .free => 0 | .candidate => 1 | .acquiring => 2 | .locked => 3 | .dormant => 4

def SurveyPhase.code : SurveyPhase → Byte
  | .none => 0 | .waiting => 1 | .dwelling => 2

def Policy.code : Policy → Byte
  | .report => 0 | .relearn => 1 | .fallback => 2 | .hold => 3

def Policy.ofByte (b : Byte) : Option Policy :=
  if b = 0 then some .report else if b = 1 then some .relearn
  else if b = 2 then some .fallback else if b = 3 then some .hold else none

def ActionTaken.code : ActionTaken → Byte
  | .none => 0 | .relearn => 1 | .fallback => 2 | .hold => 3

def Predicate.code : Predicate → Byte
  | .ovenLocked => 0 | .ovenAcq => 1 | .beacon => 2 | .anyLock => 3 | .loadHigh => 4 | .always => 5

def Predicate.ofByte (b : Byte) : Option Predicate :=
  if b = 0 then some .ovenLocked else if b = 1 then some .ovenAcq
  else if b = 2 then some .beacon else if b = 3 then some .anyLock
  else if b = 4 then some .loadHigh else if b = 5 then some .always else none

def Action.code : Action → Byte
  | .shut => 0 | .openAir => 1

/-- Yes or no from a request byte, none for a byte other than 0 or 1 (Table 10-6). -/
def boolOfByte (b : Byte) : Option Bool := if b = 0 then some false else if b = 1 then some true else none

/-- The causes of TRACKER reports (R83) with their codes (Table 10-6). -/
inductive TrackerCause where
  | created | periodFound | declared | anchored | runComplete | revived | misses | age | slipOverflow | relearn
  | evicted | forgotten | channel
  deriving DecidableEq, Repr

def TrackerCause.code : TrackerCause → Byte
  | .created => 0 | .periodFound => 1 | .declared => 2 | .anchored => 3 | .runComplete => 4 | .revived => 5
  | .misses => 6 | .age => 7 | .slipOverflow => 8 | .relearn => 9 | .evicted => 10 | .forgotten => 11 | .channel => 12

/-- The causes of MODE reports (Table 9-4, R172) with their codes. -/
inductive ModeCause where
  | escalation | restartWarm | restartCold | lineBreak | resetPin | powerUp
  deriving DecidableEq, Repr

def ModeCause.code : ModeCause → Byte
  | .escalation => 0 | .restartWarm => 1 | .restartCold => 2 | .lineBreak => 3 | .resetPin => 4 | .powerUp => 5

/-- The causes of REBASE reports (R143) with their codes. -/
inductive RebaseCause where
  | skips | channel | resume | retry
  deriving DecidableEq, Repr

def RebaseCause.code : RebaseCause → Byte
  | .skips => 0 | .channel => 1 | .resume => 2 | .retry => 3

/-- The reasons of DISPLACED reports (R133) with their codes. -/
inductive DisplacedReason where
  | prediction | mode
  deriving DecidableEq, Repr

def DisplacedReason.code : DisplacedReason → Byte
  | .prediction => 0 | .mode => 1

/-- The channel field: 1 to 13, 0 for none (Table 10-6). -/
def channelCode (o : Option Nat) : Byte := byteOf (o.getD 0)

/-- Whether a number names a channel (R34). -/
def isChannel (n : Nat) : Bool := decide (1 ≤ n ∧ n ≤ 13)

end Sys2Proof.Machine
end

