-- ==== Sys2Proof/Machine/Flags.lean ====
section
/-! DEFINITION. The sticky flags, the link error count and the LOST mark of the link controller (R190 to R192). -/

namespace Sys2Proof.Machine

/-- The flags coded as in CLEAR_FLAGS and STATUS: bit 0 SLIP_OVF, bit 1 ESCALATED, bit 2 REPORT_LOST (R192). -/
def StickyFlags.code (f : StickyFlags) : Byte :=
  byteOf ((if f.slipOvf then 1 else 0) + (if f.escalated then 2 else 0) + (if f.reportLost then 4 else 0))

/-- The flags whose bit is 1 cleared, bits 3 to 7 ignored (R192). -/
def StickyFlags.cleared (f : StickyFlags) (bits : Byte) : StickyFlags :=
  { slipOvf := f.slipOvf && !bits.getLsbD 0
    escalated := f.escalated && !bits.getLsbD 1
    reportLost := f.reportLost && !bits.getLsbD 2 }

/-- The flags that CLEAR_FLAGS reports: one that it clears as the instant found it, whether its setting or the request was
taken first, and another as it stands when the request is taken (R192; DESIGN CHOICE: log 38). -/
def StickyFlags.reported (now before : StickyFlags) (bits : Byte) : StickyFlags :=
  { slipOvf := if bits.getLsbD 0 then before.slipOvf else now.slipOvf
    escalated := if bits.getLsbD 1 then before.escalated else now.escalated
    reportLost := if bits.getLsbD 2 then before.reportLost else now.reportLost }

/-- The link controller as an instant finds it, for the replies of CLEAR_FLAGS at that instant (R192). -/
def Link.found (l : Link) : Link := { l with flagsBefore := l.flags, errorsBefore := l.errors }

/-- One link error, the count being held at 255 (R192). -/
def Link.countError (l : Link) : Link := { l with errors := saturate 255 l.errors }

/-- SLIP_OVF set (R97). -/
def Link.setSlipOvf (l : Link) : Link := { l with flags := { l.flags with slipOvf := true } }

/-- ESCALATED set (R158). -/
def Link.setEscalated (l : Link) : Link := { l with flags := { l.flags with escalated := true } }

/-- The report kinds, by their offset k from 0xC0 (Table 10-4). -/
inductive ReportKind where
  | mode | tracker | shifted | displaced | rebase | surveyDone | advice | escalation
  deriving DecidableEq, Repr

/-- The bit of the report enables that stands for a kind (R190). -/
def ReportKind.bit : ReportKind → Nat
  | .mode => 0 | .tracker => 1 | .shifted => 2 | .displaced => 3 | .rebase => 4 | .surveyDone => 5 | .advice => 6
  | .escalation => 7

/-- The KIND byte of a report (Table 10-4). -/
def ReportKind.code (k : ReportKind) : Byte := byteOf (0xC0 + k.bit)

/-- A report frame: ticket 0, the flags byte with LOST in bit 0, then the fields (R182, Table 10-11). -/
def reportFrame (k : ReportKind) (lost : Bool) (fields : List Byte) : Frame :=
  { kind := k.code, ticket := 0, payload := yesNo lost :: fields }

/-- A report handed to the link controller (R190, R191): not queued when its kind is disabled; queued with the LOST
mark, which it clears, when the report queue holds fewer than 16; and otherwise discarded, which sets the LOST-pending
mark and REPORT_LOST. -/
def Link.hand (l : Link) (k : ReportKind) (fields : List Byte) : Link :=
  if l.enables.getLsbD k.bit then
    if l.reports.length < 16 then
      { l with reports := l.reports ++ [reportFrame k l.lostPending fields], lostPending := false }
    else
      { l with lostPending := true, flags := { l.flags with reportLost := true } }
  else l

end Sys2Proof.Machine
end

