-- ==== Sys2Proof/Machine/Ops.lean ====
section
/-! DEFINITION. Named operations over the state: reports and the outbound line, tracker entries, channel records,
reservations and series by name, and the guard that the part is out of reset. -/

namespace Sys2Proof.Machine

/-! ### One block replaced -/

def State.withLink (s : State) (l : Link) : State := { s with link := l }
def State.withSense (s : State) (x : Sense) : State := { s with sense := x }
def State.withDwells (s : State) (d : Dwells) : State := { s with dwells := d }
def State.withTracking (s : State) (t : Tracking) : State := { s with tracking := t }
def State.withPlanner (s : State) (p : Planner) : State := { s with planner := p }
def State.withEscalation (s : State) (e : Escalation) : State := { s with escalation := e }
def State.withControl (s : State) (c : Control) : State := { s with control := c }

/-- The outcome of a command that the part takes only out of reset (R12, R177): in reset nothing changes
(log 25). -/
def outOfReset (f : State → State) (s : State) : Host.Outcome State Fault Refusal :=
  .next (if s.control.hold.isNone then f s else s)

/-! ### The outbound line (R188, R189) -/

/-- A report handed to the link controller (R190, R191). -/
def handReport (k : ReportKind) (fields : List Byte) (s : State) : State := s.withLink (s.link.hand k fields)

/-- The transmitter, when FREE, begins the oldest waiting reply, or else the oldest waiting report; the frame leaves
its queue and occupies TXD for 10 µs a byte (R181, R189). -/
def pump (s : State) : State :=
  match s.link.sending with
  | some _ => s
  | none =>
    match s.link.replies with
    | f :: rest =>
      s.withLink { s.link with replies := rest, sending := some { frame := f, endsAt := Instant.plus s.airClock f.lineTime } }
    | [] =>
      match s.link.reports with
      | f :: rest =>
        s.withLink { s.link with reports := rest, sending := some { frame := f, endsAt := Instant.plus s.airClock f.lineTime } }
      | [] => s

/-- A reply joins the reply queue (R187). -/
def placeReply (f : Frame) (s : State) : State := s.withLink { s.link with replies := s.link.replies ++ [f] }

/-- A REJECT or FULL is placed when the reply queue holds fewer than 4 frames; otherwise it is not formed and one link
error is counted (R186). -/
def placeOrDrop (f : Frame) (s : State) : State :=
  if s.link.replies.length < 4 then placeReply f s else s.withLink s.link.countError

/-- One link error counted (R192). -/
def countLinkError (s : State) : State := s.withLink s.link.countError

/-- The level of TXD, true for high, in the microsecond that begins at the present instant (R181): high in reset (R12, R177)
and while the transmitter is FREE, and otherwise as the frame in transmission gives it, from the start bit of its first byte
on. From the end of its last stop bit TXD is high until a next frame begins, which is at the same instant when one waits
(R189; log 4). -/
def State.txd (s : State) : Bool :=
  if s.control.hold.isSome then true
  else
    match s.link.sending with
    | none => true
    | some x =>
      x.frame.levels.getD (Instant.elapsed (Instant.minus x.endsAt x.frame.lineTime) s.airClock) true

/-! ### Replies that carry a mode (R173; DESIGN CHOICE: log 33) -/

/-- A reply of SET_MODE or RESUME that carries a mode: a status and the mode (R169, R171). -/
def Frame.repliesMode (f : Frame) : Bool := decide ((f.kind = 0x8A#8 ∨ f.kind = 0x8B#8) ∧ f.payload.length = 2)

/-- Such a reply with another mode in it. -/
def Frame.withMode (f : Frame) (m : Mode) : Frame := { f with payload := [stOk, m.code] }

/-- The last `n` replies of a queue that carry a mode, given another mode; the number of them not found is left over. -/
def amendLast (n : Nat) (m : Mode) : List Frame → Nat × List Frame
  | [] => (n, [])
  | f :: fs =>
    let p := amendLast n m fs
    if decide (0 < p.1) && f.repliesMode then (p.1 - 1, f.withMode m :: p.2) else (p.1, f :: p.2)

/-- The last `n` replies that carry a mode, in the reply queue and on TXD, given another mode. -/
def Link.amendModes (l : Link) (n : Nat) (m : Mode) : Link :=
  let p := amendLast n m l.replies
  { l with
    replies := p.2
    sending := l.sending.map (fun x =>
      if decide (0 < p.1) && x.frame.repliesMode then { x with frame := x.frame.withMode m } else x) }

/-- The lines WIN1 and WIN0, true for High: both follow the one code that the planner presents (R11, Table 1-7). -/
def State.winLines (s : State) : Bool × Bool := (s.planner.lines.win1, s.planner.lines.win0)

/-! ### Tracker entries by id (R58) -/

/-- The entry with an id; an id beyond the table reads as a FREE entry. -/
def State.tracker (s : State) (id : Nat) : Tracker := s.tracking.entries.getD id Tracker.free

/-- The entry with an id replaced. -/
def State.setTracker (s : State) (id : Nat) (t : Tracker) : State :=
  s.withTracking { s.tracking with entries := s.tracking.entries.set id t }

/-- The ids of the table (R58). -/
def trackerIds : List Nat := [0, 1, 2, 3, 4, 5, 6, 7, 8, 9, 10, 11]

/-- A TRACKER report: id, kind, old state, new state, cause (R83, Table 10-12). -/
def trackerReport (id : Nat) (kind : TrackerKind) (old new : TrackerState) (cause : TrackerCause) (s : State) : State :=
  handReport .tracker [byteOf id, kind.code, old.code, new.code, cause.code] s

/-! ### Channel records (R44) -/

/-- The record of a channel; a number that names no channel reads as an unvisited record. -/
def State.channelRecord (s : State) (c : Nat) : ChannelRecord := s.dwells.records.getD (c - 1) ChannelRecord.unvisited

/-- The channels in order. -/
def allChannels : List Nat := [1, 2, 3, 4, 5, 6, 7, 8, 9, 10, 11, 12, 13]

/-- A channel added to a span, kept in rising order without repeats (R62). -/
def spanInsert (c : Nat) : List Nat → List Nat
  | [] => [c]
  | d :: ds => if c < d then c :: d :: ds else if c = d then d :: ds else d :: spanInsert c ds

/-- The numbers of two channels differ by 3 or less. -/
def channelsNear (c d : Nat) : Bool := decide (c ≤ d + 3 ∧ d ≤ c + 3)

/-- An OVEN entry covers a channel: its span holds a channel within 3 of it (R48, R60, R108). -/
def Tracker.covers (t : Tracker) (c : Nat) : Bool := t.span.any (fun d => channelsNear d c)

/-- An OVEN entry covers O; none covers O when O is none (R108). -/
def Tracker.coversO (t : Tracker) (o : Option Nat) : Bool :=
  match o with
  | some c => t.covers c
  | none => false

/-! ### Series by id (R139) -/

/-- The series with an id. -/
def State.seriesById (s : State) (id : Nat) : Option Series := s.planner.series.find? (fun x => decide (x.id = id))

/-- The series with an id changed. -/
def State.updateSeries (s : State) (id : Nat) (f : Series → Series) : State :=
  s.withPlanner { s.planner with series := s.planner.series.map (fun x => if x.id = id then f x else x) }

/-- The tag that names an entry in reports and READ_BOOKINGS: its own, or its series' (R123). -/
def State.entryTag (s : State) (o : Origin) : Byte :=
  match o with
  | .oneShot tag => tag
  | .series id => ((s.seriesById id).map Series.tag).getD 0

/-! ### The mode (R166) -/

/-- ACTIVE or FALLBACK: the modes that steer the MAC, hold reservations and count surprises. -/
def Mode.steers : Mode → Bool
  | .active => true
  | .fallback => true
  | .standby => false
  | .observe => false
  | .hold => false

/-- The mode set by the mode controller. -/
def State.setMode (s : State) (m : Mode) : State := s.withControl { s.control with mode := m }

/-- The reply of a change of mode that a request has just made is counted (R173). -/
def noteModeReply (s : State) : State :=
  s.withControl { s.control with modeReplies := s.control.modeReplies + 1 }

/-- A reply that carries the present mode is counted when it follows one of a change at the same instant; otherwise
nothing changes (R169, R173). -/
def noteSameMode (s : State) : State :=
  s.withControl { s.control with
    modeReplies := if s.control.modeReplies = 0 then 0 else s.control.modeReplies + 1 }

/-- The replies that carry a mode and were formed at the present instant give the mode an escalation of that instant
brings (R173). -/
def amendModeReplies (m : Mode) (s : State) : State := s.withLink (s.link.amendModes s.control.modeReplies m)

/-- A MODE report: old mode, new mode, cause, instant (R172, R179). -/
def modeReport (old new : Mode) (cause : ModeCause) (s : State) : State :=
  handReport .mode ([old.code, new.code, cause.code] ++ le32 s.airClock) s

end Sys2Proof.Machine
end

