-- ==== Sys2Proof/Machine/Windows.lean ====
section
/-! DEFINITION. Predicted windows and the template's windows (R99 to R104), the predicates and the base code (R107 to
R112), and the code on the lines (R116). Every decision instant the part uses is the present instant (R101, R112), so
windows are worked out as signed distances in microseconds from it: a distance of 0 is now (DEDUCED: log 22). -/

namespace Sys2Proof.Machine

/-- A train of windows: window k runs from floor(E_k/16) - guard to ceil(E_k/16) + onTime + guard, with
E_k = anchor + k × period, for k = 0, 1, 2, ... (R99, R104). -/
structure Train where
  anchor : Sixteenth
  period : Nat
  onTime : Nat
  ovenGuard : Nat
  deriving DecidableEq, Repr

/-- The distance of the rise E_k from the instant `now`, in sixteenths. -/
def Train.riseAt (w : Train) (now : Instant) (k : Nat) : Int :=
  Sixteenth.diff w.anchor (Instant.sixteenths now) + k * w.period

/-- The start edge of window k (R99). -/
def Train.startEdge (w : Train) (now : Instant) (k : Nat) : Int := floorDiv (w.riseAt now k) 16 - w.ovenGuard

/-- The end edge of window k (R99). -/
def Train.endEdge (w : Train) (now : Instant) (k : Nat) : Int :=
  ceilDiv (w.riseAt now k) 16 + w.onTime + w.ovenGuard

/-- The first k whose window ends after the distance `lo`. -/
def Train.firstIndex (w : Train) (now : Instant) (lo : Int) : Nat :=
  (floorDiv (16 * (lo - w.onTime - w.ovenGuard) - w.riseAt now 0) w.period + 1).toNat

/-- One more than the last k whose window starts at or before the distance `hi`. -/
def Train.indexLimit (w : Train) (now : Instant) (hi : Int) : Nat :=
  (floorDiv (16 * (hi + w.ovenGuard + 1) - 1 - w.riseAt now 0) w.period + 1).toNat

/-- The numbers k of the windows that meet the distances `lo` to `hi`. -/
def Train.indices (w : Train) (now : Instant) (lo hi : Int) : List Nat :=
  (List.range (w.indexLimit now hi - w.firstIndex now lo)).map (fun i => w.firstIndex now lo + i)

/-- The instant at the distance `x` lies in some window of the train (R99): its start edge included, its end edge
not. -/
def Train.holds (w : Train) (now : Instant) (x : Int) : Bool :=
  (w.indices now x x).any (fun k => decide (w.startEdge now k ≤ x ∧ x < w.endEdge now k))

/-- The edges of the windows that meet the distances `lo` to `hi`. -/
def Train.edges (w : Train) (now : Instant) (lo hi : Int) : List Int :=
  (w.indices now lo hi).flatMap (fun k => [w.startEdge now k, w.endEdge now k])

/-! ### Guards and trains of trackers and template -/

/-- The effective guard of a LOCKED OVEN entry at the present instant: min(cap, G_base + rate × floor(age / 100,000))
(R100). At an age of exactly 5,000,000 µs, before the age limit of that instant is taken, j is 50 (DESIGN CHOICE:
log 36). -/
def effectiveGuard (ts : TrackSettings) (now : Instant) (t : Tracker) : Nat :=
  match t.lastHit with
  | some h => min ts.guardCap (ts.guardBase + ts.wideningRate * (Instant.elapsed h now / 100000))
  | none => min ts.guardCap ts.guardBase

/-- The windows of an entry with a given guard. -/
def Tracker.train (t : Tracker) (g : Nat) : Train :=
  { anchor := t.anchor, period := t.period, onTime := t.onDuration, ovenGuard := g }

/-- The windows of the LOCKED OVEN entries covering O (R99, R100, R108). -/
def lockedOvenTrains (s : State) : List Train :=
  (s.tracking.entries.filter
      (fun t => decide (t.kind = .oven ∧ t.state = .locked) && t.coversO s.dwells.operating)).map
    (fun t => t.train (effectiveGuard s.tracking.settings s.airClock t))

/-- The windows of the ACQUIRING OVEN entries covering O, with the fixed guard G_base + 500 µs (R99, R108). -/
def acquiringOvenTrains (s : State) : List Train :=
  (s.tracking.entries.filter
      (fun t => decide (t.kind = .oven ∧ t.state = .acquiring) && t.coversO s.dwells.operating)).map
    (fun t => t.train (s.tracking.settings.guardBase + 500))

/-- The windows of the LOCKED BEACON entries whose channel is O, with the beacon guard (R99, R108). -/
def lockedBeaconTrains (s : State) : List Train :=
  (s.tracking.entries.filter
      (fun t => decide (t.kind = .beacon ∧ t.state = .locked ∧ some t.channel = s.dwells.operating))).map
    (fun t => t.train s.tracking.settings.beaconGuard)

/-- The template's windows: guard G_t plus the margin M, not widening (R104). -/
def Template.train (t : Template) : Train :=
  { anchor := t.anchor, period := t.period, onTime := t.onDuration, ovenGuard := t.ovenGuard + t.margin }

/-- The windows OVEN_LOCKED reads: the template's in FALLBACK, and otherwise those of the live LOCKED ovens (R108,
R109). -/
def ovenLockedTrains (s : State) : List Train :=
  match s.control.mode with
  | .fallback => (s.planner.template.map Template.train).toList
  | .standby => lockedOvenTrains s
  | .observe => lockedOvenTrains s
  | .active => lockedOvenTrains s
  | .hold => lockedOvenTrains s

/-- Every window train that a time-valued predicate reads. -/
def predicateTrains (s : State) : List Train :=
  ovenLockedTrains s ++ acquiringOvenTrains s ++ lockedBeaconTrains s

/-! ### Predicates, rule list and base code -/

/-- At least one LOCKED OVEN entry covers O (R110). -/
def anyOvenLocked (s : State) : Bool :=
  s.tracking.entries.any (fun t => decide (t.kind = .oven ∧ t.state = .locked) && t.coversO s.dwells.operating)

/-- The load of O's record is at or above the load threshold; false when O is none (R110). -/
def loadAtThreshold (s : State) : Bool :=
  match s.dwells.operating with
  | some c => decide (s.planner.loadThreshold ≤ (s.channelRecord c).load)
  | none => false

/-- A predicate at the instant a distance `x` from now, as seen from now (Table 6-2, R108 to R110, R112). -/
def Predicate.holdsAt (p : Predicate) (s : State) (x : Int) : Bool :=
  match p with
  | .ovenLocked => (ovenLockedTrains s).any (fun w => w.holds s.airClock x)
  | .ovenAcq => (acquiringOvenTrains s).any (fun w => w.holds s.airClock x)
  | .beacon => (lockedBeaconTrains s).any (fun w => w.holds s.airClock x)
  | .anyLock => anyOvenLocked s
  | .loadHigh => loadAtThreshold s
  | .always => true

/-- A rule's test: its predicate, or the opposite when inverted (R111). -/
def Rule.test (r : Rule) (s : State) (x : Int) : Bool := (r.predicate.holdsAt s x) ^^ r.invert

/-- The action of the first rule whose test is true, and OPEN when none is (R111). -/
def baseAction (s : State) (x : Int) : List Rule → Action
  | [] => .openAir
  | r :: rs => if r.test s x then r.action else baseAction s x rs

/-- The base code at the instant a distance `x` from now, as seen from now (R111, R112). -/
def baseCode (s : State) (x : Int) : Action := baseAction s x s.planner.rules

/-- An action as a window code. -/
def Action.windowCode : Action → WindowCode
  | .shut => .shut
  | .openAir => .openAir

/-- The window code of a lane (Table 1-7). -/
def Lane.windowCode : Lane → WindowCode
  | .a => .rsvA
  | .b => .rsvB

/-- An OPEN entry whose stretch holds the present instant (R116, R123). -/
def Reservation.inProgress (e : Reservation) (now : Instant) : Bool :=
  decide (e.state = .opened) && Instant.within e.start e.length now

/-- The code the lines show at the present instant, by the mode (R116, R118). The windows are those of the guard in force
now (R101, R102), and so one that has just ended is shown again up to its wider end when its guard steps within the rate
of that end (DESIGN CHOICE: log 37). -/
def formedCode (s : State) : WindowCode :=
  match s.control.mode with
  | .standby => .openAir
  | .observe => .openAir
  | .hold => .shut
  | .active =>
    match s.planner.queue.find? (fun e => e.inProgress s.airClock) with
    | some e => e.lane.windowCode
    | none => (baseCode s 0).windowCode
  | .fallback =>
    match s.planner.queue.find? (fun e => e.inProgress s.airClock) with
    | some e => e.lane.windowCode
    | none => (baseCode s 0).windowCode

/-- The presented code re-formed at the present instant (R117). -/
def reform (s : State) : State := s.withPlanner { s.planner with lines := formedCode s }

end Sys2Proof.Machine
end

