-- ==== Sys2Proof/Machine/Placement.lean ====
section
/-! DEFINITION. Clear time, the placement search and the longest base-OPEN run (R126 to R128). As seen from the present
instant the base code changes only at window edges (R112), so an interval is cut at the edges of windows and entries
and each piece is judged at its first instant. Distances are signed microseconds from the present instant. -/

namespace Sys2Proof.Machine

/-- A distance put into a rising list without repeats. -/
def insertBreak (x : Int) : List Int → List Int
  | [] => [x]
  | y :: ys => if x < y then x :: y :: ys else if x = y then y :: ys else y :: insertBreak x ys

/-- The rising list, without repeats, of `lo` and the edges that lie inside the interval `lo` to `hi`. -/
def breaks (lo hi : Int) (edges : List Int) : List Int :=
  (edges.filter (fun e => decide (lo < e ∧ e < hi))).foldr insertBreak [lo]

/-- The start and end of an entry as distances from now (R123). -/
def Reservation.startOffset (e : Reservation) (now : Instant) : Int := Instant.offset now e.start

def Reservation.endOffset (e : Reservation) (now : Instant) : Int := e.startOffset now + e.length

/-- The entry covers the instant at the distance `x` (R123). -/
def Reservation.coversAt (e : Reservation) (now : Instant) (x : Int) : Bool :=
  decide (e.startOffset now ≤ x ∧ x < e.endOffset now)

/-- The entries that stand in the way: all but the one being re-checked, named by its start (R126). -/
def obstacles (s : State) (except : Option Instant) : List Reservation :=
  s.planner.queue.filter (fun e => decide (some e.start ≠ except))

/-- The instant at the distance `x` is clear, as seen from now (R126). -/
def clearAt (s : State) (except : Option Instant) (x : Int) : Bool :=
  decide (baseCode s x = .openAir) && !(obstacles s except).any (fun e => e.coversAt s.airClock x)

/-- The edges of the windows that the predicates read, between two distances (R112). -/
def windowEdges (s : State) (lo hi : Int) : List Int :=
  (predicateTrains s).flatMap (fun w => w.edges s.airClock lo hi)

/-- The edges of the entries that stand in the way. -/
def entryEdges (s : State) (except : Option Instant) : List Int :=
  (obstacles s except).flatMap (fun e => [e.startOffset s.airClock, e.endOffset s.airClock])

/-- The points at which clearness can change between two distances. -/
def clearBreaks (s : State) (except : Option Instant) (lo hi : Int) : List Int :=
  breaks lo hi (windowEdges s lo hi ++ entryEdges s except)

/-- The stretch of length `len` at the distance `x` is clear: every piece of it is (R126). -/
def clearStretch (s : State) (except : Option Instant) (x : Int) (len : Nat) : Bool :=
  (clearBreaks s except x (x + len)).all (clearAt s except)

/-- The search over the pieces in rising order. `run` is the start of the clear run that reaches the present piece, if
any; a piece ends where the next begins, and the last at the limit. The first clear run that is long enough gives the
fit (R127). -/
def firstFit (clear : Int → Bool) (len : Nat) (limit : Int) : Option Int → List Int → Option Int
  | _, [] => none
  | run, p :: ps =>
    if clear p then
      if len ≤ ps.headD limit - run.getD p then some (run.getD p)
      else firstFit clear len limit (some (run.getD p)) ps
    else firstFit clear len limit none ps

/-- The placement search: the earliest start, as a distance from now, at or after `lo` of a clear window of length
`len` that ends at or before `limit` (R127). -/
def placementSearch (s : State) (except : Option Instant) (lo limit : Int) (len : Nat) : Option Int :=
  if lo + len ≤ limit then firstFit (clearAt s except) len limit none (clearBreaks s except lo limit) else none

/-- The longest run of pieces whose base code is OPEN; `run` is the start of the run that reaches the present piece. -/
def longestRun (isOpen : Int → Bool) (limit : Int) : Option Int → List Int → Nat
  | _, [] => 0
  | run, p :: ps =>
    if isOpen p then
      max (ps.headD limit - run.getD p).toNat (longestRun isOpen limit (some (run.getD p)) ps)
    else longestRun isOpen limit none ps

/-- The longest base-OPEN run between two distances, entries ignored (R128). -/
def longestOpenRun (s : State) (lo limit : Int) : Nat :=
  if lo < limit then
    longestRun (fun x => decide (baseCode s x = .openAir)) limit none (breaks lo limit (windowEdges s lo limit))
  else 0

end Sys2Proof.Machine
end

