-- ==== Sys2Proof/Machine/Planner.lean ====
section
/-! DEFINITION. The reservation queue and the series table: admission, placing, re-checks, plan changes, skips and
rebases, window starts and ends (chapter 7), and the planner's share of mode and channel changes (R145 to R148). -/

namespace Sys2Proof.Machine

/-! ### Admission (R125) -/

/-- The entries of a lane, whatever their origin and state. -/
def laneCount (l : Lane) (q : List Reservation) : Nat := (q.filter (fun e => decide (e.lane = l))).length

/-- The reserve of a lane. -/
def Planner.reserve (p : Planner) : Lane → Nat
  | .a => p.reserveA
  | .b => p.reserveB

/-- The shared capacity (R124). -/
def Planner.sharedCapacity (p : Planner) : Nat := 16 - p.reserveA - p.reserveB

/-- The entries beyond the reserves (R125). -/
def Planner.beyondReserves (p : Planner) : Nat :=
  (laneCount .a p.queue - p.reserveA) + (laneCount .b p.queue - p.reserveB)

/-- An entry of a lane is admitted (R125). -/
def Planner.admits (p : Planner) (l : Lane) : Bool :=
  decide (laneCount l p.queue < p.reserve l ∨ p.beyondReserves < p.sharedCapacity)

/-! ### Entries of the queue (R123) -/

/-- An entry put into the queue in order of start. -/
def insertEntry (e : Reservation) : List Reservation → List Reservation
  | [] => [e]
  | x :: xs => if Instant.before e.start x.start then e :: x :: xs else x :: insertEntry e xs

def State.withQueue (s : State) (q : List Reservation) : State := s.withPlanner { s.planner with queue := q }

/-- An entry placed (R123). -/
def placeEntry (e : Reservation) (s : State) : State := s.withQueue (insertEntry e s.planner.queue)

/-- The entry with a start removed; no two entries share a start (R123; DEDUCED: log 32). -/
def removeEntry (start : Instant) (s : State) : State :=
  s.withQueue (s.planner.queue.filter (fun e => decide (e.start ≠ start)))

/-- The commit lead (R131). -/
def commitLead : Nat := 2000

/-- COMMITTED when the start lies within the commit lead of now, PENDING otherwise (R130, R131). -/
def stateByLead (now start : Instant) : EntryState :=
  if Instant.offset now start ≤ commitLead then .committed else .pending

/-! ### Reports of the planner (R133, R143) -/

def shiftedReport (e : Reservation) (s : State) : State :=
  handReport .shifted ([e.lane.code, e.origin.code, s.entryTag e.origin] ++ le32 e.start ++ le32 e.deadline) s

def displacedReport (e : Reservation) (reason : DisplacedReason) (s : State) : State :=
  handReport .displaced ([e.lane.code, e.origin.code, s.entryTag e.origin] ++ le32 e.start ++ [reason.code]) s

def rebaseReport (x : Series) (anchor : Instant) (cause : RebaseCause) (s : State) : State :=
  handReport .rebase ([byteOf x.id, x.lane.code, x.tag] ++ le32 anchor ++ [cause.code]) s

/-! ### Series: rebase, trial and skip (R141 to R143) -/

/-- An entry of a series at a start, with its deadline. -/
def seriesEntry (s : State) (x : Series) (start deadline : Instant) : Reservation :=
  { lane := x.lane, origin := .series x.id, start := start, length := x.length, deadline := deadline
    state := stateByLead s.airClock start }

/-- A rebase (R143): admission, then a search of one whole period from 500 µs ahead. On a fit the series takes a new
anchor and its occurrence 0 is placed, with a REBASE report; otherwise its retry instant becomes now + P_s. -/
def rebase (id : Nat) (cause : RebaseCause) (s : State) : State :=
  match s.seriesById id with
  | none => s
  | some x =>
    match (if s.planner.admits x.lane then
        placementSearch s none 500 (500 + x.period + x.length) x.length else none) with
    | some d =>
      let start := Instant.shift s.airClock d
      let s := s.updateSeries id
        (fun y => { y with anchor := start, index := 0, consecutiveSkips := 0, retry := none })
      let s := placeEntry (seriesEntry s x start (Instant.plus start (x.slide + x.length))) s
      rebaseReport x start cause s
    | none => s.updateSeries id (fun y => { y with retry := some (Instant.plus s.airClock y.period) })

/-- The trial of the occurrence of the series' index (R141): admission, then a search from the later of its nominal
instant and 500 µs ahead. The state with the entry placed, or none for a skip. -/
def tryOccurrence (x : Series) (s : State) : Option State :=
  let nominal := Instant.offset s.airClock x.anchor + x.index * x.period
  match (if s.planner.admits x.lane then
      placementSearch s none (max nominal 500) (nominal + x.slide + x.length) x.length else none) with
  | some d =>
    let deadline := Instant.shift s.airClock (nominal + x.slide + x.length)
    some (placeEntry (seriesEntry s x (Instant.shift s.airClock d) deadline) s)
  | none => none

/-- A skip counted: consecutive skips and total skips, the latter held at 65,535 (R142). -/
def countSkip (id : Nat) (s : State) : State :=
  s.updateSeries id
    (fun x => { x with consecutiveSkips := x.consecutiveSkips + 1, totalSkips := saturate 65535 x.totalSkips })

/-- The next index of a series (R142). -/
def nextIndex (id : Nat) (s : State) : State := s.updateSeries id (fun x => { x with index := x.index + 1 })

/-- Occurrences tried one index after another until one is placed or the third consecutive skip rebases the series
(R141, R142). `n` bounds the trials: three skips running end them. -/
def tryOccurrences : Nat → Nat → State → State
  | 0, _, s => s
  | n + 1, id, s =>
    match s.seriesById id with
    | none => s
    | some x =>
      match tryOccurrence x s with
      | some placed => placed
      | none =>
        if x.consecutiveSkips + 1 < 3 then tryOccurrences n id (nextIndex id (countSkip id s))
        else rebase id .skips (countSkip id s)

/-- A skip of an occurrence whose entry a re-check displaced (R142). -/
def skipOccurrence (id : Nat) (s : State) : State :=
  match s.seriesById id with
  | none => s
  | some x =>
    if x.consecutiveSkips + 1 < 3 then tryOccurrences 3 id (nextIndex id (countSkip id s))
    else rebase id .skips (countSkip id s)

/-! ### Re-checks and plan changes (R131, R132) -/

/-- The state of the entry with a start set. -/
def setEntryState (start : Instant) (st : EntryState) (s : State) : State :=
  s.withQueue (s.planner.queue.map (fun e => if e.start = start then { e with state := st } else e))

/-- The PENDING entry with a start. -/
def pendingEntry (s : State) (start : Instant) : Option Reservation :=
  s.planner.queue.find? (fun e => decide (e.start = start ∧ e.state = .pending))

/-- A re-check of the PENDING entry with a start, with now as decision instant (R131): kept, moved later within its
deadline with a SHIFTED report, or removed with a DISPLACED report and, for a series, a skip. -/
def recheck (start : Instant) (s : State) : State :=
  match pendingEntry s start with
  | none => s
  | some e =>
    let at0 := e.startOffset s.airClock
    if clearStretch s (some start) at0 e.length then setEntryState start (stateByLead s.airClock start) s
    else
      match placementSearch s (some start) at0 (Instant.offset s.airClock e.deadline) e.length with
      | some d =>
        let newStart := Instant.shift s.airClock d
        let moved := { e with start := newStart, state := stateByLead s.airClock newStart }
        shiftedReport moved (placeEntry moved (removeEntry start s))
      | none =>
        let s := displacedReport e .prediction (removeEntry start s)
        match e.origin with
        | .oneShot _ => s
        | .series id => skipOccurrence id s

/-- The ids of the series table, in order (Table 7-4). -/
def seriesIds : List Nat := [0, 1, 2, 3]

/-- A RUNNING series that holds a retry instant tries its rebase (R132, R143). -/
def retryIfHeld (s : State) (id : Nat) : State :=
  match s.seriesById id with
  | some x => if x.state = .running ∧ x.retry.isSome then rebase id .retry s else s
  | none => s

/-- A plan change (R132): every entry PENDING at that instant is re-checked once, in order of start, and then each
RUNNING series that holds a retry instant tries its rebase, in order of id. -/
def planChange (s : State) : State :=
  let starts := (s.planner.queue.filter (fun e => decide (e.state = .pending))).map Reservation.start
  seriesIds.foldl retryIfHeld (starts.foldl (fun s x => recheck x s) s)

/-- A plan change when `notice` says that one is given (R84). -/
def planChangeIf (notice : Bool) (s : State) : State := if notice then planChange s else s

/-! ### Window start and end (R134, R135, R141) -/

/-- The series takes the opening of its occurrence: anchor to the occurrence's nominal instant, index 1, no
consecutive skips, and the next occurrence tried at once (R141). -/
def occurrenceOpened (id : Nat) (s : State) : State :=
  let s := s.updateSeries id
    (fun x => { x with anchor := Instant.plus x.anchor (x.index * x.period), index := 1, consecutiveSkips := 0 })
  tryOccurrences 3 id s

/-- A COMMITTED entry becomes OPEN at its start, and its series places its next occurrence (R134). -/
def openEntry (e : Reservation) (s : State) : State :=
  let s := setEntryState e.start .opened s
  match e.origin with
  | .oneShot _ => s
  | .series id => occurrenceOpened id s

/-! ### Mode and channel changes, STOP and restarts (R145 to R148) -/

/-- Leaving ACTIVE or FALLBACK for OBSERVE or HOLD: every entry removed in order of start with a DISPLACED report of
reason MODE, every series SUSPENDED with no retry instant (R145). -/
def suspendBookings (s : State) : State :=
  let s := s.planner.queue.foldl (fun s e => displacedReport e .mode s) s
  s.withPlanner { s.planner with
    queue := [], series := s.planner.series.map (fun x => { x with state := .suspended, retry := none }) }

/-- Entering ACTIVE from OBSERVE or HOLD: every SUSPENDED series becomes RUNNING and is rebased with cause RESUME, in
order of id (R146). -/
def resumeBookings (s : State) : State :=
  let ids := (s.planner.series.filter (fun x => decide (x.state = .suspended))).map Series.id
  let s := s.withPlanner { s.planner with series := s.planner.series.map (fun x => { x with state := .running }) }
  (seriesIds.filter (fun i => ids.contains i)).foldl (fun s id => rebase id .resume s) s

/-- SET_CHANNEL to a new value: every entry removed without reports, then every RUNNING series rebased with cause
CHANNEL, in order of id (R147). -/
def rebaseForChannel (s : State) : State :=
  let ids := (s.planner.series.filter (fun x => decide (x.state = .running))).map Series.id
  (seriesIds.filter (fun i => ids.contains i)).foldl (fun s id => rebase id .channel s) (s.withQueue [])

/-- STOP and restarts empty the queue and the series table without reports (R148). -/
def emptyBookings (s : State) : State := s.withPlanner { s.planner with queue := [], series := [] }

end Sys2Proof.Machine
end

