-- ==== Sys2Proof/Machine/Modes.lean ====
section
/-! DEFINITION. Changes among the running modes (R170): by SET_MODE, by RESUME and by escalation. -/

namespace Sys2Proof.Machine

/-- A change from one running mode to another (R170): the mode is set, the lines change (R118), and the window planner
acts by the pair of modes. -/
def changeMode (new : Mode) (s : State) : State :=
  let old := s.control.mode
  let s := reform (s.setMode new)
  if old = new then s
  else if old.steers && !new.steers then suspendBookings s
  else if !old.steers && new.steers then resumeBookings s
  else if old.steers && new.steers then planChange s
  else s

end Sys2Proof.Machine
end

