-- ==== Sys2Proof/Machine/Tracking.lean ====
section
/-! DEFINITION. The tracking unit: nearest rise and association, hits, absorption, slips, candidates, allocation, misses,
pending rises and age limits (chapters 4 and 5). A result that may bring a plan change carries a mark telling whether
the tracking unit owes the window planner a notice (R84). -/

namespace Sys2Proof.Machine

/-- A state and whether a plan-change notice is owed (R84). -/
abbrev Noticed := State × Bool

/-! ### Half-widths and rises (R61, R72, R89) -/

/-- The capture half-width in µs of a kind in a state (Table 4-3); 0 for the states that match nothing. -/
def halfWidth : TrackerKind → TrackerState → Nat
  | .oven, .acquiring => 2000
  | .oven, .locked => 400
  | .oven, .dormant => 2000
  | .beacon, .acquiring => 1000
  | .beacon, .locked => 200
  | .beacon, .dormant => 1000
  | _, .free => 0
  | _, .candidate => 0

/-- The capture half-width of an entry in its present state. -/
def Tracker.halfWidth (t : Tracker) : Nat := Machine.halfWidth t.kind t.state

/-- The offset d of a record's start from the anchor (R89). -/
def Tracker.offsetOf (t : Tracker) (start : Instant) : Int := Sixteenth.diff (Instant.sixteenths start) t.anchor

/-- The cycle count n: the integer nearest d/P, the smaller on a tie (R89). -/
def Tracker.cycles (t : Tracker) (start : Instant) : Int := roundDown (t.offsetOf start) t.period

/-- The nearest rise E = A + n × P (R89). -/
def Tracker.nearestRise (t : Tracker) (start : Instant) : Sixteenth :=
  Sixteenth.plus t.anchor (t.cycles start * t.period)

/-- The residual r = 16t - E, signed (R89). -/
def Tracker.residual (t : Tracker) (start : Instant) : Int := t.offsetOf start - t.cycles start * t.period

/-- The rise E_k (R72). -/
def Tracker.riseOf (t : Tracker) (k : Nat) : Sixteenth := Sixteenth.plus t.anchor (k * t.period)

/-- The test instant ceil(E/16) + W of a rise (R72). -/
def testInstant (e : Sixteenth) (w : Nat) : Instant := Instant.plus (Sixteenth.up e) w

/-- An instant lies in the capture stretch of a rise, from floor(E/16) - W to ceil(E/16) + W (R72). -/
def inCapture (e : Sixteenth) (w : Nat) (x : Instant) : Bool :=
  Instant.between (Instant.minus (Sixteenth.down e) w) (testInstant e w) x

/-- The first rise to decide after an event at `now`: the least k from 1 whose test instant lies after it (R72). -/
def Tracker.firstRiseAfter (t : Tracker) (now : Instant) : Nat :=
  max 1 (floorDiv (-(16 * (t.halfWidth : Int)) - Sixteenth.diff t.anchor (Instant.sixteenths now)) t.period + 1).toNat

/-! ### Eligibility and the choice of a tracker (R60, R61) -/

/-- An entry in a state that association considers. -/
def TrackerState.associates : TrackerState → Bool
  | .acquiring => true
  | .locked => true
  | .dormant => true
  | .free => false
  | .candidate => false

/-- An entry eligible for a record (R60). -/
def Tracker.eligible (t : Tracker) (r : BurstRecord) : Bool :=
  t.state.associates &&
    (match t.kind with
     | .oven => !r.structured && decide (200 ≤ r.duration) && t.covers r.channel
     | .beacon => r.structured && t.anchored && decide (t.channel = r.channel))

/-- An eligible entry matches when |r| is at most 16 × W (R61). -/
def Tracker.isMatch (t : Tracker) (r : BurstRecord) : Bool :=
  t.eligible r && decide ((t.residual r.start).natAbs ≤ 16 * t.halfWidth)

/-- Of the ids in order, the matching one of smallest |r|, the lower id on a tie (R61). -/
def bestMatch (s : State) (r : BurstRecord) : List Nat → Option Nat
  | [] => none
  | id :: ids =>
    let rest := bestMatch s r ids
    if (s.tracker id).isMatch r then
      match rest with
      | none => some id
      | some j =>
        if ((s.tracker j).residual r.start).natAbs < ((s.tracker id).residual r.start).natAbs then some j
        else some id
    else rest

/-- The channel of a record added to the span of an OVEN entry (R62). -/
def Tracker.withChannel (t : Tracker) (c : Nat) : Tracker :=
  match t.kind with
  | .oven => { t with span := spanInsert c t.span }
  | .beacon => t

/-! ### Absorption (R90, R91) -/

/-- The on-duration moved toward a length by an eighth of the difference, and clamped (R91, R95). -/
def smoothDuration (d : Nat) (u : Nat) : Nat :=
  (clamp 2000 14000 ((d : Int) + roundAway ((u : Int) - d) 8)).toNat

/-- An OVEN entry that absorbs a record with n = 0 extends its on-duration when the record is neither truncated nor
long and ends after last hit + D (R91). -/
def extendDuration (t : Tracker) (r : BurstRecord) : Tracker :=
  match t.lastHit with
  | some h =>
    if !r.truncated && !r.long && Instant.before (Instant.plus h t.onDuration) r.finish then
      { t with onDuration := smoothDuration t.onDuration (Instant.elapsed h r.finish) }
    else t
  | none => t

/-- An associated record with n of 0 or less (R62, R90). -/
def absorb (t : Tracker) (r : BurstRecord) : Tracker :=
  let grown := t.withChannel r.channel
  match t.kind with
  | .oven => if t.cycles r.start = 0 then extendDuration grown r else grown
  | .beacon => grown

/-! ### The hit update and the slip test (R92 to R97) -/

/-- The anchor divisor: 2 in ACQUIRING, 4 in LOCKED (R93). -/
def anchorDivisor (locked : Bool) : Nat := if locked then 4 else 2

/-- The period divisor: 4m in ACQUIRING, 8m in LOCKED (R94). -/
def periodDivisor (locked : Bool) (m : Nat) : Nat := (if locked then 8 else 4) * m

/-- The new anchor E + round(r / 2) or E + round(r / 4) (R93). -/
def hitAnchor (t : Tracker) (r : BurstRecord) (locked : Bool) : Sixteenth :=
  Sixteenth.plus (t.nearestRise r.start) (roundAway (t.residual r.start) (anchorDivisor locked))

/-- The new period of an OVEN entry, clamped; a BEACON entry's is fixed (R94). -/
def hitPeriod (t : Tracker) (r : BurstRecord) (locked : Bool) : Nat :=
  match t.kind with
  | .oven =>
    (clamp 240000 336000
      (t.period + roundAway (t.residual r.start) (periodDivisor locked (t.cycles r.start).toNat))).toNat
  | .beacon => t.period

/-- The new on-duration of an OVEN entry, unless the record is truncated or long; a BEACON entry's is fixed (R95). -/
def hitDuration (t : Tracker) (r : BurstRecord) : Nat :=
  match t.kind with
  | .oven => if r.truncated || r.long then t.onDuration else smoothDuration t.onDuration r.duration
  | .beacon => t.onDuration

/-- The hit update: anchor, period and on-duration from the values before the hit, together (R92). -/
def hitUpdate (t : Tracker) (r : BurstRecord) (locked : Bool) : Tracker :=
  { t with anchor := hitAnchor t r locked, period := hitPeriod t r locked, onDuration := hitDuration t r }

/-- The residual in sixteenths up to which a hit counts toward lock (R64). -/
def runLimit : TrackerKind → Nat
  | .oven => 6400
  | .beacon => 3200

/-- The run after an ACQUIRING hit (R64). -/
def hitRun (t : Tracker) (r : BurstRecord) : Nat :=
  if (t.residual r.start).natAbs ≤ runLimit t.kind then saturate 15 t.run else 0

/-- What every hit sets: misses 0, hits one more, last hit, no pending rise, and the next rise to decide (R64). -/
def hitBookkeeping (t : Tracker) (r : BurstRecord) (now : Instant) : Tracker :=
  let t := { t with misses := 0, hits := saturate 65535 t.hits, lastHit := some r.start, pendingRise := none }
  { t with nextRise := t.firstRiseAfter now }

/-- A hit on an ACQUIRING entry: the update, the run, and LOCKED when the run is complete (R64). -/
def acquiringHit (id : Nat) (t : Tracker) (r : BurstRecord) (s : State) : Noticed :=
  let run := hitRun t r
  let t' := { (hitUpdate t r false).withChannel r.channel with run := run }
  if s.tracking.settings.lockRun ≤ run then
    (trackerReport id t.kind .acquiring .locked .runComplete
      (s.setTracker id (hitBookkeeping { t' with state := .locked } r s.airClock)), true)
  else (s.setTracker id (hitBookkeeping t' r s.airClock), false)

/-- The slip test finds an overflow: |r| above 64 sixteenths with 15 slips counted (R96). -/
def slipOverflows (t : Tracker) (r : BurstRecord) : Bool :=
  decide (64 < (t.residual r.start).natAbs ∧ 15 ≤ t.slips)

/-- A hit on a LOCKED entry: the update, then the slip test; a slip overflow demotes the entry to ACQUIRING with run 0,
sets its mark and SLIP_OVF, and is reported (R65, R96, R97). -/
def lockedHit (id : Nat) (t : Tracker) (r : BurstRecord) (s : State) : Noticed :=
  let t' := (hitUpdate t r true).withChannel r.channel
  if slipOverflows t r then
    let t' := { t' with state := .acquiring, run := 0, slips := 0, slipOverflow := true }
    let s := trackerReport id t.kind .locked .acquiring .slipOverflow
      (s.setTracker id (hitBookkeeping t' r s.airClock))
    (s.withLink s.link.setSlipOvf, true)
  else
    let t' := if 64 < (t.residual r.start).natAbs then { t' with slips := t.slips + 1 } else t'
    (s.setTracker id (hitBookkeeping t' r s.airClock), false)

/-- A hit on a DORMANT entry revives it, with the run preset to the lock run less 3, and is then taken as a hit on an
ACQUIRING entry (R66). -/
def dormantHit (id : Nat) (t : Tracker) (r : BurstRecord) (s : State) : Noticed :=
  let revived := { t with state := .acquiring, run := s.tracking.settings.lockRun - 3 }
  ((acquiringHit id revived r (trackerReport id t.kind .dormant .acquiring .revived (s.setTracker id revived))).1, true)

/-- A record associated with the entry of an id: absorbed with n of 0 or less, a hit with n of 1 or more (R62). -/
def associate (id : Nat) (r : BurstRecord) (s : State) : Noticed :=
  let t := s.tracker id
  if t.cycles r.start ≤ 0 then (s.setTracker id (absorb t r), false)
  else
    match t.state with
    | .acquiring => acquiringHit id t r s
    | .locked => lockedHit id t r s
    | .dormant => dormantHit id t r s
    | .free => (s, false)
    | .candidate => (s, false)

/-! ### Anchoring a declared beacon (R63) -/

/-- An unanchored BEACON entry in ACQUIRING that a structured record may anchor. -/
def Tracker.anchorable (t : Tracker) (r : BurstRecord) : Bool :=
  decide (t.kind = .beacon ∧ t.state = .acquiring ∧ t.anchored = false ∧ t.channel = r.channel
    ∧ r.duration ≤ t.onDuration + 200)

/-- The values an anchored entry takes (R63); the next rise to decide is set as after any anchoring (R72). -/
def anchorBeacon (t : Tracker) (r : BurstRecord) (now : Instant) : Tracker :=
  let t := { t with
    anchored := true, anchor := Instant.sixteenths r.start, run := 1, misses := 0
    hits := saturate 65535 t.hits, lastHit := some r.start }
  { t with nextRise := t.firstRiseAfter now }

/-- A structured record that matched nothing anchors the lowest-id entry that admits it, if any (R63). -/
def tryAnchor (r : BurstRecord) (s : State) : State × Option Nat :=
  match trackerIds.find? (fun id => (s.tracker id).anchorable r) with
  | some id =>
    (trackerReport id .beacon .acquiring .acquiring .anchored
      (s.setTracker id (anchorBeacon (s.tracker id) r s.airClock)), some id)
  | none => (s, none)

/-! ### Allocation and eviction (R71) -/

/-- Of the ids in order that pass a test, the one of greatest age, the lower id on a tie (DESIGN CHOICE: log 23). -/
def oldest (test : Nat → Bool) (age : Nat → Nat) : List Nat → Option Nat
  | [] => none
  | id :: ids =>
    if test id then
      match oldest test age ids with
      | none => some id
      | some j => if age id < age j then some j else some id
    else oldest test age ids

/-- The age of an entry: now less its last hit (R75); 0 when it has none. -/
def Tracker.age (t : Tracker) (now : Instant) : Nat :=
  match t.lastHit with
  | some h => Instant.elapsed h now
  | none => 0

/-- The CANDIDATE entry with the oldest rise, or else the DORMANT OVEN entry with the oldest last hit (R71). -/
def evictable (s : State) : Option Nat :=
  match oldest (fun id => decide ((s.tracker id).state = .candidate))
      (fun id => Instant.elapsed (s.tracker id).rise s.airClock) trackerIds with
  | some id => some id
  | none =>
    oldest (fun id => decide ((s.tracker id).state = .dormant ∧ (s.tracker id).kind = .oven))
      (fun id => (s.tracker id).age s.airClock) trackerIds

/-- The entry becomes FREE with all its fields cleared, with a TRACKER report (R70, R71, R78). -/
def freeTracker (id : Nat) (cause : TrackerCause) (s : State) : State :=
  let t := s.tracker id
  trackerReport id t.kind t.state .free cause (s.setTracker id Tracker.free)

/-- A place for a new entry: the lowest-id FREE entry, or the id of an evicted one; none when allocation fails
(R71). -/
def allocate (s : State) : Option (State × Nat) :=
  match trackerIds.find? (fun id => decide ((s.tracker id).state = .free)) with
  | some id => some (s, id)
  | none =>
    match evictable s with
    | some id => some (freeTracker id .evicted s, id)
    | none => none

/-! ### Candidates (R67 to R69) -/

/-- The smallest k from 1 to 4 for which I/k, taken exactly, lies from 15,000 to 21,000 µs (R67). -/
def cycleCount (interval : Nat) : Option Nat :=
  [1, 2, 3, 4].find? (fun k => decide (15000 * k ≤ interval ∧ interval ≤ 21000 * k))

/-- The conditions on a record for the candidate test (R67). -/
def testsCandidates (r : BurstRecord) : Bool :=
  !r.structured && decide (3000 ≤ r.duration ∧ r.duration ≤ 13000) && !r.cutAtStart

/-- A rise that is 100,000 µs old, the age limit of a CANDIDATE entry (R70). -/
def Tracker.riseExpired (t : Tracker) (now : Instant) : Bool := decide (100000 ≤ Instant.elapsed t.rise now)

/-- A CANDIDATE entry that qualifies for a record taken at `now` (R67). An entry whose age limit has been reached is never
promoted, even where the interval of R67 is one of 84,000 µs or less, to a record released late (R70; DEDUCED: log 45). -/
def Tracker.qualifies (t : Tracker) (r : BurstRecord) (now : Instant) : Bool :=
  decide (t.state = .candidate) && !t.riseExpired now && t.covers r.channel
    && (cycleCount (Instant.elapsed t.rise r.start)).isSome

/-- The qualifying candidate whose rise is latest: the one of smallest interval to the record (R67), the lower
id on a tie (DESIGN CHOICE: log 23). -/
def bestCandidate (s : State) (r : BurstRecord) : List Nat → Option Nat
  | [] => none
  | id :: ids =>
    let rest := bestCandidate s r ids
    if (s.tracker id).qualifies r s.airClock then
      match rest with
      | none => some id
      | some j =>
        if Instant.elapsed (s.tracker j).rise r.start < Instant.elapsed (s.tracker id).rise r.start then some j
        else some id
    else rest

/-- The period of a promoted candidate: round(16 × I / k), to nearest with halves up (R68). -/
def promotedPeriod (interval k : Nat) : Nat := (2 * (16 * interval) + k) / (2 * k)

/-- The values of a promoted candidate (R68). -/
def promoted (t : Tracker) (r : BurstRecord) (k : Nat) (now : Instant) : Tracker :=
  let t' : Tracker := { Tracker.free with
    kind := .oven, state := .acquiring
    span := spanInsert r.channel t.span
    period := promotedPeriod (Instant.elapsed t.rise r.start) k
    anchor := Instant.sixteenths r.start
    onDuration := clampNat 2000 14000 r.duration
    run := 1, hits := 1, lastHit := some r.start }
  { t' with nextRise := t'.firstRiseAfter now }

/-- A new CANDIDATE entry (R69). -/
def newCandidate (r : BurstRecord) : Tracker :=
  { Tracker.free with kind := .oven, state := .candidate, rise := r.start, span := [r.channel] }

/-- The candidate test: the best qualifying candidate is promoted, or a new one created if there is a place (R67 to
R69). -/
def candidateTest (r : BurstRecord) (s : State) : Noticed :=
  if testsCandidates r then
    match bestCandidate s r trackerIds with
    | some id =>
      let t := s.tracker id
      let k := (cycleCount (Instant.elapsed t.rise r.start)).getD 1
      (trackerReport id .oven .candidate .acquiring .periodFound (s.setTracker id (promoted t r k s.airClock)), true)
    | none =>
      match allocate s with
      | some (s', id) =>
        (trackerReport id .oven .free .candidate .created (s'.setTracker id (newCandidate r)), false)
      | none => (s, false)
  else (s, false)

/-! ### Misses and pending rises (R72 to R74) -/

/-- A LOCKED entry made DORMANT: misses 0, everything else kept, no rise pending (R73, R74). -/
def Tracker.asDormant (t : Tracker) : Tracker := { t with state := .dormant, misses := 0, pendingRise := none }

/-- A BEACON entry made ACQUIRING, unanchored: run 0, misses 0, last hit none, no phase and no rise pending (R74,
R76). -/
def Tracker.asUnanchored (t : Tracker) : Tracker :=
  { t with state := .acquiring, anchored := false, anchor := 0, run := 0, misses := 0, lastHit := none
           pendingRise := none, nextRise := 0 }

/-- A miss on the entry of an id (R74). -/
def miss (id : Nat) (s : State) : Noticed :=
  let t := s.tracker id
  let t' := { t with misses := saturate 31 t.misses }
  match t.state with
  | .locked =>
    if s.tracking.settings.missLimit ≤ t'.misses then
      (trackerReport id t.kind .locked .dormant .misses (s.setTracker id t'.asDormant), true)
    else (s.setTracker id t', false)
  | .acquiring =>
    if 3 ≤ t'.misses then
      match t.kind with
      | .oven => (freeTracker id .misses s, true)
      | .beacon =>
        (trackerReport id .beacon .acquiring .acquiring .misses (s.setTracker id t'.asUnanchored), false)
    else (s.setTracker id t', false)
  | .free => (s.setTracker id t', false)
  | .candidate => (s.setTracker id t', false)
  | .dormant => (s.setTracker id t', false)

/-- The pending rise of an entry dropped. -/
def dropPending (id : Nat) (s : State) : State := s.setTracker id { s.tracker id with pendingRise := none }

/-- A pending rise settled as a miss: dropped, then the miss counted (R73). -/
def settleAsMiss (id : Nat) (s : State) : Noticed := miss id (dropPending id s)

/-- The settlement of the pending rise of one entry by a delivered record whose start lies in its capture stretch: no
miss when the record was associated with the entry, and a miss otherwise (R73). -/
def settleByRecord (r : BurstRecord) (assoc : Option Nat) (p : Noticed) (id : Nat) : Noticed :=
  match (p.1.tracker id).pendingRise with
  | some q =>
    if inCapture q.rise q.halfWidth r.start then
      if assoc = some id then (dropPending id p.1, p.2)
      else let m := settleAsMiss id p.1; (m.1, p.2 || m.2)
    else p
  | none => p

/-- The outcome of a record in the tracker table, before any pending rise is settled: association with the best match;
else anchoring for a structured record and the candidate test for an unstructured one (R60). The second part is the
tracker it was associated with. -/
def recordOutcome (r : BurstRecord) (s : State) : Noticed × Option Nat :=
  match bestMatch s r trackerIds with
  | some id => (associate id r s, some id)
  | none =>
    if r.structured then (((tryAnchor r s).1, false), (tryAnchor r s).2)
    else (candidateTest r s, none)

/-- The tracking unit takes a delivered record: its outcome, then the settlement of the pending rises it answers (R60,
R73), by rising id (DESIGN CHOICE: log 34), and one plan-change notice after all the changes (R84; DEDUCED: log 12). The
record's outcome of association goes with it. -/
def trackRecord (r : BurstRecord) (s : State) : State × Option Nat :=
  let out := recordOutcome r s
  let settled := trackerIds.foldl (settleByRecord r out.2) out.1
  (planChangeIf settled.2 settled.1, out.2)

/-! ### What the sense receiver holds (R72, R73) -/

/-- The starts of the run, burst in progress and held record of the sense receiver; a run starts at its first
reading. -/
def heldStarts (x : Sense) : List Instant :=
  (match x.detector with
   | .quiet run => if 0 < run.count then [run.first] else []
   | .inBurst _ b => [b.start]) ++
  (match x.held with
   | some h => [h.record.start]
   | none => [])

/-- The sense receiver holds something whose start lies in the capture stretch of a rise (R72). -/
def holdsInCapture (x : Sense) (e : Sixteenth) (w : Nat) : Bool := (heldStarts x).any (inCapture e w)

/-- A pending rise whose capture stretch the receiver no longer holds anything in is a miss (R73). -/
def sweepEntry (p : Noticed) (id : Nat) : Noticed :=
  match (p.1.tracker id).pendingRise with
  | some q =>
    if holdsInCapture p.1.sense q.rise q.halfWidth then p
    else let m := settleAsMiss id p.1; (m.1, p.2 || m.2)
  | none => p

/-- The pending rises left without anything held in their capture stretches are settled as misses, by rising id (DESIGN
CHOICE: log 34), with one notice after all the changes (R73, R84; DEDUCED: log 12). -/
def sweepPending (s : State) : State :=
  let p := trackerIds.foldl sweepEntry (s, false)
  planChangeIf p.2 p.1

/-! ### The observation test and the rise test (R30, R72) -/

/-- The tuned channel is in the entry's coverage for misses: an OVEN entry's span, a BEACON entry's own channel
(R30). -/
def Tracker.hearsChannel (t : Tracker) (tuned : Option Nat) : Bool :=
  match tuned with
  | none => false
  | some c =>
    match t.kind with
    | .oven => t.span.contains c
    | .beacon => decide (t.channel = c)

/-- The observation test for a rise, taken at the present instant (R30). -/
def observes (x : Sense) (t : Tracker) (e : Sixteenth) : Bool :=
  t.hearsChannel x.tuned &&
    (match x.observedSince with
     | some o => Instant.atOrBefore o (Instant.minus (Sixteenth.down e) t.halfWidth)
     | none => false)

/-- An entry that decides its predicted rises: LOCKED or ACQUIRING, and anchored if a BEACON (R72). -/
def Tracker.decides (t : Tracker) : Bool :=
  match t.state with
  | .acquiring => decide (t.kind = .oven) || t.anchored
  | .locked => decide (t.kind = .oven) || t.anchored
  | .free => false
  | .candidate => false
  | .dormant => false

/-- A pending rise that RELEARN has kept reaches its test instant for ACQUIRING (R156). -/
def Tracker.retestDue (t : Tracker) (now : Instant) : Bool :=
  match t.pendingRise with
  | some p => p.retest && Instant.atOrBefore (testInstant p.rise p.halfWidth) now
  | none => false

/-- The test instant of the entry's next rise, or that of a pending rise to be tested again, has been reached. -/
def riseDue (s : State) (id : Nat) : Bool :=
  (s.tracker id).decides &&
    ((s.tracker id).retestDue s.airClock ||
      Instant.atOrBefore (testInstant ((s.tracker id).riseOf (s.tracker id).nextRise) (s.tracker id).halfWidth)
        s.airClock)

/-- The second test of a pending rise, at its test instant for ACQUIRING (R72, R156): unobserved, it is dropped without a
miss; observed with something held in its capture stretch, it stays the pending rise; observed otherwise, a miss. -/
def retestRise (id : Nat) (s : State) : Noticed :=
  let t := s.tracker id
  match t.pendingRise with
  | none => (s, false)
  | some p =>
    if observes s.sense t p.rise then
      if holdsInCapture s.sense p.rise p.halfWidth then
        (s.setTracker id { t with pendingRise := some { p with retest := false } }, false)
      else settleAsMiss id s
    else (dropPending id s, false)

/-- The test of the entry's next rise (R72): unobserved, no effect; observed with something held in the capture stretch
and no rise pending, the rise becomes the pending rise; observed otherwise, a miss. Then the following rise is next. -/
def testNextRise (id : Nat) (s : State) : Noticed :=
  let t := s.tracker id
  let e := t.riseOf t.nextRise
  let s := s.setTracker id { t with nextRise := t.nextRise + 1 }
  if observes s.sense t e then
    if holdsInCapture s.sense e t.halfWidth && t.pendingRise.isNone then
      (s.setTracker id
        { t with nextRise := t.nextRise + 1, pendingRise := some { rise := e, halfWidth := t.halfWidth, retest := false } }, false)
    else miss id s
  else (s, false)

/-- A rise of the entry decided: a pending rise that is due to be tested again goes before the next rise, which lies
later (R72, R156). -/
def decideRise (id : Nat) (s : State) : Noticed :=
  if (s.tracker id).retestDue s.airClock then retestRise id s else testNextRise id s

/-! ### Age limits (R70, R75, R76) -/

/-- A CANDIDATE entry whose rise is 100,000 µs old (R70). -/
def candidateExpired (s : State) (id : Nat) : Bool :=
  decide ((s.tracker id).state = .candidate) && (s.tracker id).riseExpired s.airClock

/-- An anchored LOCKED or ACQUIRING entry 5,000,000 µs without a hit (R75). -/
def trackerAged (s : State) (id : Nat) : Bool :=
  (s.tracker id).decides && decide (5000000 ≤ (s.tracker id).age s.airClock)

/-- The age limit of a LOCKED or ACQUIRING entry (R75). -/
def ageTracker (id : Nat) (s : State) : Noticed :=
  let t := s.tracker id
  match t.state with
  | .locked => (trackerReport id t.kind .locked .dormant .age (s.setTracker id t.asDormant), true)
  | .acquiring =>
    match t.kind with
    | .oven => (freeTracker id .age s, true)
    | .beacon => (trackerReport id .beacon .acquiring .acquiring .age (s.setTracker id t.asUnanchored), false)
  | .free => (s, false)
  | .candidate => (s, false)
  | .dormant => (s, false)

/-- The age limit of a DORMANT entry: 60 s for an OVEN, 600 s for a BEACON (R76). -/
def dormantLimit : TrackerKind → Nat
  | .oven => 60000000
  | .beacon => 600000000

def dormantAged (s : State) (id : Nat) : Bool :=
  decide ((s.tracker id).state = .dormant ∧ dormantLimit (s.tracker id).kind ≤ (s.tracker id).age s.airClock)

/-- The age limit of a DORMANT entry taken: an OVEN becomes FREE; a BEACON becomes ACQUIRING, unanchored, with a notice
(R76). -/
def ageDormant (id : Nat) (s : State) : Noticed :=
  let t := s.tracker id
  match t.kind with
  | .oven => (freeTracker id .age s, false)
  | .beacon => (trackerReport id .beacon .dormant .acquiring .age (s.setTracker id t.asUnanchored), true)

/-! ### Changes from other blocks (R80, R82, R85, R156) -/

/-- Every CANDIDATE entry freed at a change of channel, with a TRACKER report of cause CHANNEL for each (R80), in
order of id (DESIGN CHOICE: log 34). -/
def freeCandidates (s : State) : State :=
  trackerIds.foldl
    (fun s id => if (s.tracker id).state = .candidate then freeTracker id .channel s else s) s

/-- Every LOCKED entry whose misses are at or above the miss limit becomes DORMANT (R82), in order of id (DESIGN CHOICE:
log 34). -/
def applyMissLimit (s : State) : State :=
  trackerIds.foldl
    (fun s id =>
      if (s.tracker id).state = .locked ∧ s.tracking.settings.missLimit ≤ (s.tracker id).misses then
        trackerReport id (s.tracker id).kind .locked .dormant .misses (s.setTracker id (s.tracker id).asDormant)
      else s) s

/-- Every pending rise dropped without a miss (R73, R85). -/
def dropAllPending (s : State) : State :=
  s.withTracking { s.tracking with entries := s.tracking.entries.map (fun t => { t with pendingRise := none }) }

/-- A pending rise kept by RELEARN takes the ACQUIRING half-width, and is tested again at the test instant that follows
from it unless that has passed (R156; DEDUCED: log 13). -/
def PendingRise.relearned (p : PendingRise) (now : Instant) : PendingRise :=
  { p with
    halfWidth := Machine.halfWidth .oven .acquiring
    retest := Instant.atOrBefore now (testInstant p.rise (Machine.halfWidth .oven .acquiring)) }

/-- The values of an entry demoted by RELEARN (R156). -/
def Tracker.relearned (t : Tracker) (now : Instant) : Tracker :=
  { t with
    state := .acquiring, run := 0, misses := 0, pendingRise := t.pendingRise.map (fun p => p.relearned now) }

/-- The demotion of one LOCKED OVEN entry by RELEARN (R156). -/
def relearnEntry (p : Noticed) (id : Nat) : Noticed :=
  let t := p.1.tracker id
  if t.kind = .oven ∧ t.state = .locked then
    (trackerReport id .oven .locked .acquiring .relearn (p.1.setTracker id (t.relearned p.1.airClock)), true)
  else p

/-- RELEARN: every LOCKED OVEN entry demoted, in order of id, with one notice if any was (R156). -/
def relearn (s : State) : State :=
  let p := trackerIds.foldl relearnEntry (s, false)
  planChangeIf p.2 p.1

end Sys2Proof.Machine
end

