-- ==== Sys2Proof/Machine/Escalation.lean ====
section
/-! DEFINITION. The escalation unit: the surprise test, the score, escalations and the fault record (chapter 8). -/

namespace Sys2Proof.Machine

/-! ### The surprise test (R150, R151) -/

/-- A code that shows open or reserved air. -/
def WindowCode.showsAir : WindowCode → Bool
  | .shut => false
  | .openAir => true
  | .rsvA => true
  | .rsvB => true

/-- The seven conditions of R150; `assoc` is the outcome of association. -/
def isSurprise (r : BurstRecord) (assoc : Option Nat) (s : State) : Bool :=
  !r.structured && decide (s.dwells.operating = some r.channel) && assoc.isNone && !r.cutAtStart
    && decide (200 ≤ r.duration) && r.code.showsAir && s.control.mode.steers

/-! ### The action of an escalation (R156, R157) -/

/-- The mode that an escalation of policy FALLBACK enters (R157). -/
def fallbackTarget (s : State) : Mode :=
  match s.control.mode, s.planner.template with
  | .active, some _ => .fallback
  | .active, none => .hold
  | .fallback, _ => .hold
  | .standby, _ => .hold
  | .observe, _ => .hold
  | .hold, _ => .hold

/-- The action taken when a mode is entered by an escalation. -/
def Mode.asAction : Mode → ActionTaken
  | .fallback => .fallback
  | .standby => .hold
  | .observe => .hold
  | .active => .hold
  | .hold => .hold

/-- The change of mode that an escalation asks for, and its MODE report after the planner's own reports (R157, R172). A
reply of a mode request of the same instant gives the mode in force after both (R173). -/
def escalateMode (new : Mode) (s : State) : State × ActionTaken :=
  (modeReport s.control.mode new .escalation (amendModeReplies new (changeMode new s)), new.asAction)

/-- The policy in use applied, and the action taken (R156, R157). -/
def applyPolicy (s : State) : State × ActionTaken :=
  match s.escalation.policy with
  | .report => (s, .none)
  | .relearn => (relearn s, .relearn)
  | .fallback => escalateMode (fallbackTarget s) s
  | .hold => escalateMode .hold s

/-! ### The fault record (R159, R160) -/

/-- The fault record after an escalation that began in the state `s0`: filled by the first, and its further count one
more by each later one (R159, R160). -/
def FaultRecord.after (old : Option FaultRecord) (s0 : State) (r : BurstRecord) (action : ActionTaken) : FaultRecord :=
  match old with
  | none =>
    { instant := s0.airClock, channel := s0.dwells.operating.getD 0, modeBefore := s0.control.mode
      policy := s0.escalation.policy, action := action, surpriseStart := r.start, surpriseDuration := r.duration
      further := 0 }
  | some f => { f with further := saturate 255 f.further }

/-- The fault record of the state after an escalation. -/
def fillFault (s0 : State) (r : BurstRecord) (action : ActionTaken) (s : State) : State :=
  s.withEscalation { s.escalation with fault := some (FaultRecord.after s.escalation.fault s0 r action) }

/-! ### Escalation and the score (R152, R155, R158) -/

/-- An ESCALATION report: policy, action taken, channel O, instant (R158). -/
def escalationReport (s0 : State) (action : ActionTaken) (s : State) : State :=
  handReport .escalation
    ([s0.escalation.policy.code, action.code, channelCode s0.dwells.operating] ++ le32 s0.airClock) s

/-- An escalation, in the order of R155: score 0, policy, fault record, sticky flag ESCALATED, report. -/
def escalate (r : BurstRecord) (s : State) : State :=
  let out := applyPolicy (s.withEscalation { s.escalation with score := 0 })
  let s' := fillFault s r out.2 out.1
  escalationReport s out.2 (s'.withLink s'.link.setEscalated)

/-- A surprise adds 1 to the score, held at 15, and escalates when the score is at or above the threshold (R152). -/
def countSurprise (r : BurstRecord) (s : State) : State :=
  let score := saturate 15 s.escalation.score
  let s := s.withEscalation { s.escalation with score := score }
  if s.escalation.threshold ≤ score then escalate r s else s

/-- The escalation unit takes a delivered record (R28, R150). -/
def escalationTest (r : BurstRecord) (assoc : Option Nat) (s : State) : State :=
  if isSurprise r assoc s then countSurprise r s else s

/-- The drain of the score at a whole multiple of 250,000 µs (R153). -/
def drainScore (s : State) : State :=
  s.withEscalation { s.escalation with score := s.escalation.score - 1, drained := true }

end Sys2Proof.Machine
end

