-- ==== Sys2Proof/Machine/Sense.lean ====
section
/-! DEFINITION. The sense receiver: delivery of records, the burst assembler, energy readings, cuts, blanking and
observation (chapter 2), and the dwell's accounting of what is delivered (R45, R54). -/

namespace Sys2Proof.Machine

/-! ### Delivery of a released record (R28, R45, R54) -/

/-- A record counted in the current dwell (R45). -/
def Dwell.count (d : Dwell) (r : BurstRecord) : Dwell :=
  if r.structured then
    { d with busy := d.busy + r.duration, structuredCount := saturate 65535 d.structuredCount }
  else
    { d with busy := d.busy + r.duration, unstructuredBusy := d.unstructuredBusy + r.duration
             unstructuredCount := saturate 65535 d.unstructuredCount }

/-- The tracker a record was associated with joins the survey's list while the survey dwells, once, in order of first
association (R54). -/
def Survey.noted (v : Survey) (assoc : Option Nat) : Survey :=
  match v.phase, assoc with
  | .dwelling, some id => if v.trackers.contains id then v else { v with trackers := v.trackers ++ [id] }
  | .dwelling, none => v
  | .none, _ => v
  | .waiting, _ => v

/-- The dwell scheduler takes a delivered record (R45, R54). -/
def dwellTakes (r : BurstRecord) (assoc : Option Nat) (s : State) : State :=
  s.withDwells { s.dwells with
    current := s.dwells.current.map (fun d => d.count r), survey := s.dwells.survey.noted assoc }

/-- A released record is delivered to the tracking unit, then with its outcome to the escalation unit, and to the dwell
scheduler (R28). -/
def deliver (r : BurstRecord) (s : State) : State :=
  let out := trackRecord r s
  dwellTakes r out.2 (escalationTest r out.2 out.1)

/-! ### The burst assembler (R23 to R25) -/

/-- The content of the burst assembler replaced. -/
def State.withHeld (s : State) (h : Option HeldRecord) : State := s.withSense { s.sense with held := h }

/-- A merge partner joined with the held record (R25). -/
def merged (h p : BurstRecord) : BurstRecord :=
  { channel := h.channel, start := h.start, finish := p.finish, duration := Instant.elapsed h.start p.finish
    structured := false, truncated := h.truncated || p.truncated, cutAtStart := h.cutAtStart, long := false
    code := h.code }

/-- An instant lies at or before a held record's gap end instant: a burst of that start is a merge partner (R24). -/
def HeldRecord.admits (h : HeldRecord) (start : Instant) : Bool := Instant.atOrBefore start h.gapEnd

/-- A record held with its gap end instant, or released at once when that instant has passed (R23, R24). -/
def hold (r : BurstRecord) (s : State) : State :=
  let gapEnd := Instant.plus r.finish s.sense.settings.mergeGap
  if Instant.before gapEnd s.airClock then deliver r (s.withHeld none)
  else s.withHeld (some { record := r, gapEnd := gapEnd })

/-- The burst assembler takes an ended or cut burst (R23): structured and long ones are released at once, another is
held or merged with the held record. A held record that is no partner's is released before the new one is held, as at
a dwell end (R26). -/
def assemble (r : BurstRecord) (s : State) : State :=
  if r.structured || r.long then deliver r s
  else
    match s.sense.held with
    | none => hold r s
    | some h =>
      if h.admits r.start then hold (merged h.record r) s
      else hold r (deliver h.record (s.withHeld none))

/-- A merge partner of the held record is in progress (R24). -/
def partnerInProgress (x : Sense) (h : HeldRecord) : Bool :=
  match x.detector with
  | .quiet _ => false
  | .inBurst _ b => !b.structured && h.admits b.start

/-- A run whose first reading lies at or before the gap end instant is in progress (R24). -/
def runInTime (x : Sense) (h : HeldRecord) : Bool :=
  match x.detector with
  | .quiet run => decide (0 < run.count) && h.admits run.first
  | .inBurst _ _ => false

/-- The held record is released (R24). -/
def releaseHeld (s : State) : State :=
  match s.sense.held with
  | some h => deliver h.record (s.withHeld none)
  | none => s

/-- The held record waits for nothing at its gap end instant or later: no burst in progress and no run that began at or
before it (R24). A structured burst is no partner and is not waited for (DEDUCED: log 17). -/
def gapEndReached (s : State) : Bool :=
  match s.sense.held with
  | some h => Instant.atOrBefore h.gapEnd s.airClock && !partnerInProgress s.sense h && !runInTime s.sense h
  | none => false

/-- The held record's gap end instant has passed and what it waited for is over: it is released (R24). -/
def releaseOverdue (s : State) : State :=
  match s.sense.held with
  | some h => if Instant.before h.gapEnd s.airClock && gapEndReached s then releaseHeld s else s
  | none => s

/-- The span from the held record's start has reached 30,000 µs with its merge partner in progress (R24). A run waited
for at the gap end may qualify the partner when the span is already longer: the record is released at that instant
(DESIGN CHOICE: log 35). -/
def spanLimitReached (s : State) : Bool :=
  match s.sense.held with
  | some h => partnerInProgress s.sense h && decide (30000 ≤ Instant.elapsed h.record.start s.airClock)
  | none => false

/-! ### Bursts ended and cut (R18, R21, R22) -/

/-- The record of a burst in progress with an end instant. A burst cut at its start is truncated too (R27, remark). -/
def burstRecord (s : State) (b : Burst) (finish : Instant) (cut long : Bool) : BurstRecord :=
  { channel := s.sense.tuned.getD 0, start := b.start, finish := finish, duration := Instant.elapsed b.start finish
    structured := b.structured, truncated := cut || b.cutAtStart, cutAtStart := b.cutAtStart, long := long
    code := b.code }

/-- The record that a cut at the present instant makes of the burst in progress (R21). -/
def cutRecord (s : State) : Option BurstRecord :=
  match s.sense.detector with
  | .quiet _ => none
  | .inBurst below b =>
    if below = 0 then some (burstRecord s b s.airClock true false)
    else some (burstRecord s b (Instant.plus b.last 4) false false)

/-- The detector QUIET with run count 0, the fresh mark as it is. -/
def State.quiet (s : State) : State := s.withSense { s.sense with detector := .quiet Run.empty }

/-- A restart point of detection at the present instant (R17). -/
def restartDetection (s : State) : State :=
  s.withSense { s.sense with
    detector := .quiet Run.empty, fresh := true, restartPoint := s.airClock, restartCode := s.planner.lines }

/-- The burst in progress has lasted 30,000 µs and its latest reading was at or above the threshold (R22). A burst whose
below count is 1 to 11 at that instant is not cut then or later, and a reading at or above the threshold continues it by
R18 (DEDUCED: log 39). -/
def longBurstDue (s : State) : Bool :=
  match s.sense.detector with
  | .quiet _ => false
  | .inBurst below b => decide (below = 0 ∧ Instant.elapsed b.start s.airClock = 30000)

/-- The cut of a long burst, which is a restart point (R22). A reading in progress at that instant is dropped (DEDUCED:
log 41). -/
def cutLongBurst (s : State) : State :=
  match s.sense.detector with
  | .quiet _ => s
  | .inBurst _ b =>
    sweepPending (releaseOverdue
      (assemble (burstRecord s b (Instant.plus b.start 30000) true true) (restartDetection s)))

/-! ### Energy readings (R15 to R19) -/

/-- The receiver is observing: SETTLED and not blanked. -/
def Sense.observing (x : Sense) : Bool := decide (x.tuning = .settled ∧ x.blanking = .inactive)

/-- A reading can be taken at the present instant: it is a multiple of 4 whose reading has not been taken, and the
receiver has observed since the reading's instant 4 µs ago with no restart point in between (R15, R17). That
a reading is taken once is log 16, and what happens at a boundary of observation that falls where the reading ends is
log 26 (DESIGN CHOICE). R15 does not name the cut of a long burst (R22) among the boundaries that drop a reading: that a
reading whose 4 µs contain that cut, strictly inside, is dropped too is the model's reading of R15, R17 and R22
(DEDUCED: log 41). -/
def readingDue (s : State) : Bool :=
  decide (s.airClock.toNat % 4 = 0) && !s.sense.readingTaken && s.sense.observing &&
    Instant.atOrBefore s.sense.restartPoint (Instant.minus s.airClock 4) &&
    (match s.sense.observedSince with
     | some o => Instant.atOrBefore o (Instant.minus s.airClock 4)
     | none => false)

/-- A reading is at or above the threshold; its level is held within -100 to 0 dBm (R15). -/
def DetectSettings.above (d : DetectSettings) (level : Int) : Bool := decide (d.threshold ≤ clamp (-100) 0 level)

/-- The run with one more reading at or above the threshold (R16). -/
def Run.next (run : Run) (instant : Instant) (code : WindowCode) : Run :=
  if run.count = 0 then { count := 1, first := instant, code := code } else { run with count := run.count + 1 }

/-- The burst that qualifies at the fifth reading of a run (R16, R17, R19). -/
def qualified (x : Sense) (run : Run) (instant : Instant) (preamble : Bool) : Burst :=
  if x.fresh then
    { start := x.restartPoint, last := instant, structured := false, cutAtStart := true, code := x.restartCode }
  else
    { start := run.first, last := instant, structured := x.settings.structuredOn && preamble, cutAtStart := false
      code := run.code }

/-- A reading of the instant `instant` in QUIET (R16, R17). -/
def readQuiet (run : Run) (instant : Instant) (above preamble : Bool) (x : Sense) : Sense :=
  if above then
    let run := run.next instant x.readingCode
    if 5 ≤ run.count then
      { x with detector := .inBurst 0 (qualified x run instant preamble), fresh := false }
    else { x with detector := .quiet run }
  else { x with detector := .quiet Run.empty, fresh := false }

/-- A reading in IN_BURST; the 12th consecutive one below the threshold ends the burst (R18). -/
def readInBurst (below : Nat) (b : Burst) (instant : Instant) (above : Bool) (s : State) : State :=
  if above then s.withSense { s.sense with detector := .inBurst 0 { b with last := instant } }
  else if 12 ≤ below + 1 then assemble (burstRecord s b (Instant.plus b.last 4) false false) s.quiet
  else s.withSense { s.sense with detector := .inBurst (below + 1) b }

/-- A reading taken at the end of its interval (R15, R16, R18), with the releases and settlements it brings (R24,
R73). Level and verdict come from the sender (DESIGN CHOICE: log 19). -/
def takeReading (level : Int) (preamble : Bool) (s : State) : State :=
  let instant := Instant.minus s.airClock 4
  let above := s.sense.settings.above level
  let s := s.withSense { s.sense with readingTaken := true }
  sweepPending (releaseOverdue
    (match s.sense.detector with
     | .quiet run => s.withSense (readQuiet run instant above preamble s.sense)
     | .inBurst below b => readInBurst below b instant above s))

/-! ### Blanking and observation (R20, R29, R5) -/

/-- Observation broken, a run discarded and a burst in progress cut into the assembler (R20, R21). -/
def breakObservation (s : State) : State :=
  let cut := cutRecord s
  let s := s.quiet
  let s := s.withSense { s.sense with observedSince := none }
  sweepPending (releaseOverdue (match cut with
    | some r => assemble r s
    | none => s))

/-- TXON goes high (R20). -/
def startBlanking (s : State) : State :=
  match s.sense.blanking with
  | .inactive => breakObservation (s.withSense { s.sense with blanking := .active none })
  | .active _ => s.withSense { s.sense with blanking := .active none }

/-- Blanking ends: observation begins, with a restart point, when the receiver is SETTLED (R17, R20, R29). -/
def endBlanking (s : State) : State :=
  let s := s.withSense { s.sense with blanking := .inactive }
  if s.sense.tuning = .settled then
    restartDetection (s.withSense { s.sense with observedSince := some s.airClock })
  else s

/-- TXON goes low: the tail in use begins; a tail of 0 µs ends blanking at once (R20). -/
def startTail (s : State) : State :=
  match s.sense.blanking with
  | .inactive => s
  | .active (some _) => s
  | .active none =>
    if s.sense.settings.tail = 0 then endBlanking s
    else s.withSense { s.sense with blanking := .active (some (Instant.plus s.airClock s.sense.settings.tail)) }

/-- The end of the blanking tail has been reached. -/
def tailOver (s : State) : Bool :=
  match s.sense.blanking with
  | .inactive => false
  | .active none => false
  | .active (some e) => Instant.atOrBefore e s.airClock

/-- The end of settling has been reached. -/
def settlingOver (s : State) : Bool :=
  match s.sense.tuning with
  | .idle => false
  | .settled => false
  | .settling e => Instant.atOrBefore e s.airClock

/-- Settling ends: a restart point, and observation begins when blanking is inactive (R17, R29). -/
def endSettling (s : State) : State :=
  let s := s.withSense { s.sense with tuning := .settled }
  restartDetection
    (if s.sense.blanking = .inactive then s.withSense { s.sense with observedSince := some s.airClock } else s)

/-- The age above which observed since is moved forward (R5). -/
def observedLimit : Nat := 600000000

/-- Observed since has an age above 600 s (R5). -/
def observedTooOld (s : State) : Bool :=
  match s.sense.observedSince with
  | some o => decide (observedLimit < Instant.elapsed o s.airClock)
  | none => false

/-- Observed since moved to 600 s before now (R5). -/
def advanceObserved (s : State) : State :=
  s.withSense { s.sense with observedSince := some (Instant.minus s.airClock observedLimit) }

/-! ### Dwell starts and ends, and STANDBY (R13, R14, R26) -/

/-- A dwell starts on a channel (R13): pending settings come into use, the detector starts afresh, and the receiver
retunes unless it is tuned to that channel. -/
def senseDwellStart (channel : Nat) (s : State) : State :=
  let s := restartDetection (s.withSense { s.sense with
    settings := s.sense.pendingSettings.getD s.sense.settings, pendingSettings := none })
  if s.sense.tuned = some channel then s
  else s.withSense { s.sense with
    tuned := some channel, tuning := .settling (Instant.plus s.airClock 200), observedSince := none }

/-- The releases of a dwell end (R26): the burst in progress is cut; merged with the held record if it is its partner,
and otherwise released after it. Both deliveries are one command, so a drain of the escalation unit at that instant is taken
before or after them and never between (R154; DESIGN CHOICE: log 44). -/
def senseDwellEnd (s : State) : State :=
  let cut := cutRecord s
  let held := s.sense.held
  let s := (s.withHeld none).quiet
  sweepPending (match held, cut with
    | none, none => s
    | none, some r => deliver r s
    | some h, none => deliver h.record s
    | some h, some r =>
      if !r.structured && h.admits r.start then deliver (merged h.record r) s
      else deliver r (deliver h.record s))

/-- The receiver becomes idle, and discards its run, burst and held record (R14). -/
def senseIdle (s : State) : State :=
  s.withSense { s.sense with
    tuned := none, tuning := .idle, observedSince := none, detector := .quiet Run.empty, held := none }

end Sys2Proof.Machine
end

