-- ==== Sys2Proof/Machine/Dwells.lean ====
section
/-! DEFINITION. The dwell scheduler: the dwell sequence, channel records, scores, advice and surveys (chapter 3). -/

namespace Sys2Proof.Machine

/-! ### The sequence of dwells (R37 to R41) -/

/-- The group size (R39). -/
def Interleave.groupSize : Interleave → Nat
  | .alternate => 1
  | .sparse => 3

/-- The first entry of the effective scan list at or after a place of the scan list: its place and channel; entries
equal to O are passed over (R39). -/
def nextEntry (o : Option Nat) : Nat → List Nat → Option (Nat × Nat)
  | _, [] => none
  | place, c :: cs => if some c = o then nextEntry o (place + 1) cs else some (place, c)

/-- The next entry of the effective scan list at or after the scan pointer. -/
def Dwells.upcoming (d : Dwells) : Option (Nat × Nat) := nextEntry d.operating d.pointer (d.plan.channels.drop d.pointer)

/-- The effective scan list: the scan list with O removed (R39). -/
def Dwells.effective (d : Dwells) : List Nat := d.plan.channels.filter (fun c => decide (some c ≠ d.operating))

/-- A dwell starts: the scheduler's state takes a new current dwell with nothing counted, and the sense receiver is
named its channel (R38, R13). -/
def startDwell (kind : DwellKind) (channel length : Nat) (s : State) : State :=
  let dwell : Dwell :=
    { kind := kind, channel := channel, start := s.airClock, plannedEnd := Instant.plus s.airClock length
      busy := 0, unstructuredBusy := 0, observed := 0, structuredCount := 0, unstructuredCount := 0 }
  senseDwellStart channel (s.withDwells { s.dwells with current := some dwell })

/-- An operating dwell on O starts (R39). With no operating channel there is no dwell; no running mode has none
(R167). -/
def startOperating (s : State) : State :=
  match s.dwells.operating with
  | none => s.withDwells { s.dwells with current := none }
  | some o =>
    startDwell .operating o s.dwells.plan.operatingLength
      (s.withDwells { s.dwells with group := 0, forceOperating := false })

/-- The next dwell of the sequence: the next entry of the effective list while the group is below its size, and
otherwise an operating dwell (R39). -/
def startSequenceDwell (s : State) : State :=
  if s.dwells.forceOperating || decide (s.dwells.plan.interleave.groupSize ≤ s.dwells.group) then startOperating s
  else
    match s.dwells.upcoming with
    | none => startOperating s
    | some (place, c) =>
      startDwell .offChannel c s.dwells.plan.offChannelLength
        (s.withDwells { s.dwells with pointer := place + 1, group := s.dwells.group + 1 })

/-- The survey dwell starts (R53). -/
def startSurveyDwell (s : State) : State :=
  startDwell .survey s.dwells.survey.channel s.dwells.survey.duration
    (s.withDwells { s.dwells with survey := { s.dwells.survey with phase := .dwelling } })

/-- A pending plan comes into use: the scan pointer at the start, and an operating dwell next in the sequence (R37). -/
def applyPlan (s : State) : State :=
  match s.dwells.pendingPlan with
  | some p =>
    s.withDwells { s.dwells with plan := p, pendingPlan := none, pointer := 0, forceOperating := true }
  | none => s

/-- The next dwell starts. A WAITING survey takes a boundary at which a dwell ended at its planned end (R53). -/
def startNextDwell (plannedEnd : Bool) (s : State) : State :=
  let s := applyPlan s
  if plannedEnd && decide (s.dwells.survey.phase = .waiting) then startSurveyDwell s else startSequenceDwell s

/-! ### Channel records (R46) -/

/-- The observed time from which a dwell's share is counted (R46, R55). -/
def leastObserved : Nat := 10000

/-- The busy share in permille, held at 1,000 (R46). -/
def share (busy observed : Nat) : Nat := min 1000 (1000 * busy / observed)

/-- A load moved toward a share by an eighth of the difference (R46). -/
def smoothLoad (load x : Nat) : Nat := (clamp 0 1000 ((load : Int) + roundAway ((x : Int) - load) 8)).toNat

/-- The record of a channel after a dwell that ends at `now` (R46). -/
def ChannelRecord.updated (r : ChannelRecord) (d : Dwell) (now : Instant) : ChannelRecord :=
  { visited := true
    load := smoothLoad r.load (share d.busy d.observed)
    unstructuredLoad := smoothLoad r.unstructuredLoad (share d.unstructuredBusy d.observed)
    lastVisitEnd := now
    visits := saturate 65535 r.visits }

/-- The record of the ended dwell's channel is updated when enough was observed (R46). -/
def updateRecord (d : Dwell) (s : State) : State :=
  if leastObserved ≤ d.observed then
    s.withDwells { s.dwells with
      records := s.dwells.records.set (d.channel - 1) ((s.channelRecord d.channel).updated d s.airClock) }
  else s

/-! ### Scores and advice (R48 to R51) -/

/-- The duty of an OVEN entry in permille, held at 1,000 (R48). -/
def Tracker.duty (t : Tracker) (guardBase : Nat) : Nat :=
  min 1000 (ceilDiv (16000 * ((t.onDuration : Int) + 2 * guardBase)) t.period).toNat

/-- The duties of the OVEN entries in LOCKED or DORMANT that cover a channel, added (R49). -/
def dutySum (s : State) (c : Nat) : Nat :=
  ((s.tracking.entries.filter
      (fun t => decide (t.kind = .oven ∧ (t.state = .locked ∨ t.state = .dormant)) && t.covers c)).map
    (fun t => t.duty s.tracking.settings.guardBase)).sum

/-- The score of a channel; lower is better (R49). -/
def score (s : State) (c : Nat) : Nat :=
  if (s.channelRecord c).visited then min 2000 ((s.channelRecord c).load + dutySum s c) else 2000

/-- Of channels, the one of lowest score, the lowest number on a tie (R50). -/
def bestChannel (s : State) : List Nat → Option Nat
  | [] => none
  | c :: cs =>
    match bestChannel s cs with
    | none => some c
    | some b => if score s b < score s c ∨ (score s b = score s c ∧ b < c) then some b else some c

/-- An ADVICE report: O, the best channel and their scores (R50). -/
def adviceReport (o b : Nat) (s : State) : State :=
  handReport .advice ([byteOf o, byteOf b] ++ le16n (score s o) ++ le16n (score s b)) s

/-- The best channel when the cycle passes (R50). -/
def advicePasses (s : State) : Option (Nat × Nat) :=
  match s.dwells.operating, bestChannel s s.dwells.effective with
  | some o, some b => if s.dwells.plan.margin + score s b ≤ score s o then some (o, b) else none
  | some _, none => none
  | none, _ => none

/-- The advice state replaced. -/
def State.withAdvice (s : State) (a : Advice) : State := s.withDwells { s.dwells with advice := a }

/-- The advice test at a scan-cycle end (R50). -/
def adviceTest (s : State) : State :=
  match advicePasses s with
  | some (o, b) =>
    if s.dwells.advice.armed then
      if 2 ≤ s.dwells.advice.passes then
        (adviceReport o b s).withAdvice { armed := false, passes := 0 }
      else s.withAdvice { s.dwells.advice with passes := s.dwells.advice.passes + 1 }
    else s
  | none => s.withAdvice { armed := true, passes := 0 }

/-- The end of a dwell of this kind ends the scan cycle (R40, R41). -/
def endsCycle (d : Dwells) : DwellKind → Bool
  | .operating => d.effective.isEmpty
  | .offChannel => d.upcoming.isNone
  | .survey => false

/-- A scan cycle ends: the pointer returns to the start, an operating dwell follows, and the advice test is taken (R39,
R41, R50). -/
def endCycle (s : State) : State :=
  adviceTest (s.withDwells { s.dwells with pointer := 0, forceOperating := true })

/-! ### Surveys (R55, R56) -/

/-- A SURVEY_DONE report (R55, R56). -/
def surveyReport (status : Byte) (channel load structured unstructured : Nat) (ids : List Nat) (s : State) : State :=
  handReport .surveyDone
    ([status, byteOf channel] ++ le16n load ++ le16n structured ++ le16n unstructured
      ++ byteOf ids.length :: ids.map byteOf) s

/-- No survey is in flight any more. The survey record keeps its channel, duration and tracker list, which nothing reads
while the phase is NONE (DESIGN CHOICE: log 6). -/
def clearSurvey (s : State) : State :=
  s.withDwells { s.dwells with survey := { s.dwells.survey with phase := .none } }

/-- The survey dwell has ended: its report, with the share of that one dwell, and phase NONE (R55). -/
def finishSurvey (d : Dwell) (s : State) : State :=
  clearSurvey (surveyReport stOk s.dwells.survey.channel
    (if leastObserved ≤ d.observed then share d.busy d.observed else 65535)
    d.structuredCount d.unstructuredCount s.dwells.survey.trackers s)

/-- STOP aborts a survey in flight with a report of status ABORTED (R56). -/
def abortSurvey (s : State) : State :=
  if s.dwells.survey.phase = .none then s
  else clearSurvey (surveyReport stAborted s.dwells.survey.channel 0 0 0 [] s)

/-! ### Dwell ends (R38, R43) -/

/-- What a dwell end does first, whatever ended the dwell: the sense receiver's releases, then the channel record, with
every record of the dwell counted (R43). -/
def closeDwell (s : State) : State :=
  let s := senseDwellEnd s
  match s.dwells.current with
  | some d => updateRecord d s
  | none => s

/-- A survey dwell's completion, or a scan-cycle end, as the ended dwell's kind has it (R43). -/
def afterDwell (d : Dwell) (s : State) : State :=
  match d.kind with
  | .survey => finishSurvey d s
  | .operating => if endsCycle s.dwells .operating then endCycle s else s
  | .offChannel => if endsCycle s.dwells .offChannel then endCycle s else s

/-- A dwell ends at its planned end, in the order of R43, and the next one starts. -/
def endDwell (s : State) : State :=
  let s := closeDwell s
  startNextDwell true (match s.dwells.current with
    | some d => afterDwell d s
    | none => s)

/-- The current dwell has reached its planned end. -/
def dwellOver (s : State) : Bool :=
  match s.dwells.current with
  | some d => Instant.atOrBefore d.plannedEnd s.airClock
  | none => false

/-! ### A change of channel (R34, R35, R80, R147, R132) -/

/-- The dwell scheduler's own state at a change of channel: advice re-armed, pointer at the start, an operating dwell
next (R35, R51). -/
def takeChannel (c : Nat) (s : State) : State :=
  s.withDwells { s.dwells with operating := some c, advice := Advice.rearmed, pointer := 0, forceOperating := true }

/-- A change of channel cuts an operating or off-channel dwell, and a survey dwell goes on (R35). -/
def cutDwell (s : State) : State :=
  match s.dwells.current with
  | none => s
  | some d =>
    match d.kind with
    | .survey => s
    | .operating => startNextDwell false (closeDwell s)
    | .offChannel => startNextDwell false (closeDwell s)

/-- A change of channel, block by block: O, then the reservation queue and the series (R147), then the dwell end with
its records (R35), then the candidates (R80), then the plan change (R132). -/
def changeChannel (c : Nat) (s : State) : State :=
  planChange (freeCandidates (cutDwell (rebaseForChannel (takeChannel c s))))

/-! ### START, STOP and restarts (R42, R51) -/

/-- START begins the dwell sequence with an operating dwell on O and re-arms the advice state (R42, R51). -/
def beginSequence (s : State) : State :=
  let s := applyPlan s
  startOperating (s.withDwells { s.dwells with pointer := 0, advice := Advice.rearmed })

/-- The current dwell is abandoned, without a dwell end; the pointer returns to the start (R42). -/
def abandonDwell (s : State) : State := s.withDwells { s.dwells with current := none, pointer := 0 }

end Sys2Proof.Machine
end

