-- ==== Sys2Proof/Machine/Restart.lean ====
section
/-! DEFINITION. Restarts: what each block holds after a cold start and after a warm restart, being held in reset, and
leaving reset (R12, R14, R33, R57, R86, R113, R122, R148, R164, R174 to R180, R195). -/

namespace Sys2Proof.Machine

/-! ### Blocks after a warm restart -/

/-- The sense receiver after a warm restart (R33). -/
def Sense.warm (x : Sense) : Sense :=
  { x with
    tuned := none, tuning := .idle, observedSince := none, detector := .quiet Run.empty, fresh := true, held := none }

/-- The dwell scheduler after a warm restart (R57). -/
def Dwells.warm (d : Dwells) : Dwells :=
  { Dwells.cold with operating := d.operating, plan := d.plan, pendingPlan := d.pendingPlan, records := d.records }

/-- An entry that a warm restart keeps as DORMANT: run, misses and slips 0 (R86). -/
def Tracker.keptDormant (t : Tracker) : Tracker := { t.asDormant with run := 0, slips := 0 }

/-- A tracker entry after a warm restart (R86, Table 4-5). -/
def Tracker.warm (t : Tracker) : Tracker :=
  match t.state with
  | .free => Tracker.free
  | .candidate => Tracker.free
  | .acquiring =>
    match t.kind with
    | .oven => Tracker.free
    | .beacon => { t.asUnanchored with slips := 0 }
  | .locked => t.keptDormant
  | .dormant => t.keptDormant

/-- The tracking unit after a warm restart (R86). -/
def Tracking.warm (t : Tracking) : Tracking := { t with entries := t.entries.map Tracker.warm }

/-- The window planner after a warm restart (R113, R122, R148, R11). -/
def Planner.warm (p : Planner) : Planner := { p with lines := .openAir, queue := [], series := [] }

/-- The escalation unit after a warm restart (R164). -/
def Escalation.warm (e : Escalation) : Escalation := { e with score := 0 }

/-- The link controller after a warm restart (R195). -/
def Link.warm (l : Link) : Link :=
  { Link.cold with
    waitHigh := l.waitHigh, rxdLow := l.rxdLow, enables := l.enables, flags := l.flags, errors := l.errors
    flagsBefore := l.flagsBefore, errorsBefore := l.errorsBefore }

/-! ### Blocks after a cold start by RESTART COLD, out of reset throughout -/

/-- Blanking after a cold start that does not hold the part in reset: it follows TXON, active while TXON is high and
inactive while it is low (R33; DEDUCED: log 21). -/
def Blanking.followed : Blanking → Blanking
  | .inactive => .inactive
  | .active none => .active none
  | .active (some _) => .inactive

/-- A low level on RXD goes on being measured from its fall, the air clock having become 0 (R2, R195; DEDUCED:
log 20). -/
def LowLevel.rebased (w : LowLevel) (now : Instant) : LowLevel := { w with fall := w.fall - now }

/-- The link controller after a cold start by RESTART COLD (R195). -/
def Link.coldRunning (l : Link) (now : Instant) : Link :=
  { Link.cold with waitHigh := l.waitHigh, rxdLow := l.rxdLow.map (fun w => w.rebased now) }

/-! ### Restarts (R178, R179) -/

/-- A warm restart is taken whole: the air clock runs on, and a MODE report is handed over (R178, R179). -/
def warmRestart (cause : ModeCause) (s : State) : State :=
  modeReport s.control.mode .standby cause
    { s with
      sense := s.sense.warm, dwells := s.dwells.warm, tracking := s.tracking.warm, planner := s.planner.warm
      escalation := s.escalation.warm, control := Control.restarted, link := s.link.warm }

/-- A cold start by RESTART COLD is taken whole: the air clock becomes 0 and runs on (R2, R178, R179). -/
def coldRestart (cause : ModeCause) (s : State) : State :=
  modeReport s.control.mode .standby cause
    { State.cold with
      sense := { Sense.cold with blanking := s.sense.blanking.followed }
      link := s.link.coldRunning s.airClock, choices := s.choices, pending := s.pending }

/-- The part enters a cold start and is held in reset (R12, R177). -/
def enterReset (why : ResetHold) (s : State) : State :=
  { State.cold with
    control := { Control.restarted with hold := some why }, choices := s.choices, pending := s.pending }

/-- The cause reported when the part leaves reset (Table 9-4). -/
def ResetHold.cause : ResetHold → ModeCause
  | .resetPin => .resetPin
  | .powerUp => .powerUp

/-- RESET_N while the part is held by power-up leaves it held by power-up (DESIGN CHOICE: log 14). -/
def ResetHold.joined (old : Option ResetHold) : ResetHold :=
  match old with
  | some .powerUp => .powerUp
  | some .resetPin => .resetPin
  | none => .resetPin

/-- The link controller as the part leaves reset: with RXD low it waits for high, and the low level is measured from
now (R180, R195). -/
def Link.started (l : Link) (rxdHigh : Bool) (now : Instant) : Link :=
  if rxdHigh then l else { l with waitHigh := true, rxdLow := some { fall := now, restarted := false } }

/-- The sense receiver as the part leaves reset: with TXON high blanking is active (R33). -/
def Sense.started (x : Sense) (txonHigh : Bool) : Sense := if txonHigh then { x with blanking := .active none } else x

/-- The part leaves reset, with RXD and TXON at the given levels, and hands over its MODE report (R177, R179). -/
def leaveReset (rxdHigh txonHigh : Bool) (s : State) : State :=
  match s.control.hold with
  | none => s
  | some why =>
    modeReport .standby .standby why.cause
      { s with
        control := { s.control with hold := none }
        sense := s.sense.started txonHigh
        link := s.link.started rxdHigh s.airClock }

/-! ### A break (R176) -/

/-- The low level on RXD has lasted 50,000 µs and has not brought its restart (R176). -/
def breakDue (s : State) : Bool :=
  match s.link.rxdLow with
  | some w => !w.restarted && decide (50000 ≤ Instant.elapsed w.fall s.airClock)
  | none => false

/-- This low level has brought its restart (R176, R180). -/
def markBreakTaken (s : State) : State :=
  s.withLink { s.link with rxdLow := s.link.rxdLow.map (fun w => { w with restarted := true }) }

/-- The restart of a break: a cold start when the restart mark is COLD, and a warm restart of cause BREAK otherwise
(R176). -/
def breakRestart (s : State) : State :=
  match s.control.mark with
  | some .cold => coldRestart .restartCold (markBreakTaken s)
  | some .warm => warmRestart .lineBreak (markBreakTaken s)
  | none => warmRestart .lineBreak (markBreakTaken s)

/-! ### The restart of a RESTART request (R174) -/

/-- The restart that the restart mark records, when the RESTART reply has left (R174). -/
def markedRestart (kind : RestartKind) (s : State) : State :=
  match kind with
  | .warm => warmRestart .restartWarm s
  | .cold => coldRestart .restartCold s

end Sys2Proof.Machine
end

