-- ==== Sys2Proof/Machine/LinkRequests.lean ====
section
/-! DEFINITION. What the link controller's and the mode controller's requests do and reply (R167 to R171, R174, R190,
R192 to R194). A request answers the state it leaves and the payload of its reply. -/

namespace Sys2Proof.Machine

/-- What a request leaves: the state, and its reply's payload, the status byte first (R188). -/
abbrev Answer := State × List Byte

/-- A request refused: nothing changes and the reply carries the status alone (R188). -/
def refuse (status : Byte) (s : State) : Answer := (s, [status])

/-! ### Link controller -/

/-- IDENT: vendor code, part code and revision (R193). -/
def requestIdent (s : State) : Answer := (s, [stOk, 0x57#8, 0xC1#8, 0x24#8, 1])

/-- TIME: the air clock (R193). -/
def requestTime (s : State) : Answer := (s, stOk :: le32 s.airClock)

/-- The number of tracker entries in a state. -/
def trackersIn (s : State) (x : TrackerState) : Nat := (s.tracking.entries.filter (fun t => decide (t.state = x))).length

/-- The fields of STATUS (R194). -/
def statusFields (s : State) : List Byte :=
  [s.control.mode.code, channelCode s.dwells.operating, s.dwells.survey.phase.code,
   byteOf (trackersIn s .free), byteOf (trackersIn s .candidate), byteOf (trackersIn s .acquiring),
   byteOf (trackersIn s .locked), byteOf (trackersIn s .dormant),
   byteOf (laneCount .a s.planner.queue), byteOf (laneCount .b s.planner.queue), byteOf s.planner.series.length,
   yesNo s.planner.template.isSome, s.link.flags.code, byteOf s.link.errors, byteOf s.escalation.score]
    ++ le32 s.airClock

/-- STATUS (R194). -/
def requestStatus (s : State) : Answer := (s, stOk :: statusFields s)

/-- SET_REPORTS: the enables take their new values (R190). -/
def requestSetReports (enables : Byte) (s : State) : Answer :=
  (s.withLink { s.link with enables := enables }, [stOk, enables])

/-- CLEAR_FLAGS: the named flags are cleared, and the link error count too when the count byte is 1; the reply gives
both as they stood before, without what was set or counted at the same instant and is cleared (R192; DESIGN CHOICE:
log 38). The count is sent as one byte, the size R194 gives it (DEDUCED: log 43). -/
def requestClearFlags (flags count : Byte) (s : State) : Answer :=
  match boolOfByte count with
  | none => refuse stBadArg s
  | some clear =>
    (s.withLink { s.link with
        flags := s.link.flags.cleared flags, errors := if clear then 0 else s.link.errors
        flagsBefore := s.link.flagsBefore.cleared flags, errorsBefore := if clear then 0 else s.link.errorsBefore },
      [stOk, (s.link.flags.reported s.link.flagsBefore flags).code,
       byteOf (if clear then s.link.errorsBefore else s.link.errors)])

/-! ### Mode controller -/

/-- RESTART: the restart mark is set, and the reply carries the kind (R174). -/
def requestRestart (kind : Byte) (s : State) : Answer :=
  if kind = 0 then (s.withControl { s.control with mark := some .warm }, [stOk, kind])
  else if kind = 1 then (s.withControl { s.control with mark := some .cold }, [stOk, kind])
  else refuse stBadArg s

/-- START taken: the mode is entered and the dwell sequence begins (R167). -/
def enterRunning (m : Mode) (s : State) : Answer := (reform (beginSequence (s.setMode m)), [stOk, m.code])

/-- START in its order of checks (R167): argument, mode, operating channel. -/
def startChecked (m : Mode) (s : State) : Answer :=
  if s.control.mode ≠ .standby then refuse stWrongMode s
  else if s.dwells.operating.isNone then refuse stNoChannel s
  else enterRunning m s

/-- START (R167). -/
def requestStart (mode : Byte) (s : State) : Answer :=
  if mode = 1 then startChecked .observe s
  else if mode = 2 then startChecked .active s
  else refuse stBadArg s

/-- The return from a running mode to STANDBY, block by block (R168). -/
def stopRunning (s : State) : State :=
  reform (emptyBookings (dropAllPending (abortSurvey (abandonDwell (senseIdle (s.setMode .standby))))))

/-- STOP (R168). -/
def requestStop (s : State) : Answer :=
  if s.control.mode = .standby then refuse stWrongMode s else (stopRunning s, [stOk, Mode.standby.code])

/-- The mode that a SET_MODE byte names; STANDBY's code is not one of them (R169). -/
def modeArgument (b : Byte) : Option Mode :=
  if b = 1 then some .observe else if b = 2 then some .active
  else if b = 3 then some .fallback else if b = 4 then some .hold else none

/-- A change among running modes made by a request, with the mode now in force in the reply (R169, R170). An escalation
taken later at this instant gives the reply its own mode (R173, against R171 and R189; DESIGN CHOICE: log 33). -/
def changeByRequest (m : Mode) (s : State) : Answer := (noteModeReply (reform (changeMode m s)), [stOk, m.code])

/-- SET_MODE FALLBACK from another running mode (R169, checks 4 and 5). -/
def toFallback (s : State) : Answer :=
  if s.control.mode = .observe ∨ s.control.mode = .hold then refuse stWrongMode s
  else if s.planner.template.isNone then refuse stNoTemplate s
  else changeByRequest .fallback s

/-- SET_MODE in its order of checks (R169). -/
def requestSetMode (mode : Byte) (s : State) : Answer :=
  match modeArgument mode with
  | none => refuse stBadArg s
  | some m =>
    if s.control.mode = .standby then refuse stWrongMode s
    else if s.control.mode = m then (noteSameMode s, [stOk, m.code])
    else if m = .fallback then toFallback s
    else changeByRequest m s

/-- RESUME (R171). -/
def requestResume (s : State) : Answer :=
  if s.control.mode = .hold ∨ s.control.mode = .fallback then changeByRequest .active s
  else refuse stWrongMode s

end Sys2Proof.Machine
end

