-- ==== Sys2Proof/Machine/SenseRequests.lean ====
section
/-! DEFINITION. What the requests of the sense receiver and of the dwell scheduler do and reply (R31, R34, R36, R47,
R49, R52). -/

namespace Sys2Proof.Machine

/-! ### SET_DETECT (R31) -/

/-- A threshold byte, signed, clamped to -95 to -40 dBm. -/
def clampThreshold (b : Byte) : Int := clamp (-95) (-40) b.toInt

/-- The settings of a SET_DETECT request after clamping. -/
def detectSettings (threshold : Byte) (on : Bool) (tail gap : Half) : DetectSettings :=
  { threshold := clampThreshold threshold, structuredOn := on, tail := clampNat 0 200 (timeCodeValue tail)
    mergeGap := clampNat 0 2000 (timeCodeValue gap) }

/-- Whether the clamping changed a value. -/
def detectClamped (threshold : Byte) (tail gap : Half) (d : DetectSettings) : Bool :=
  decide (d.threshold ≠ threshold.toInt ∨ d.tail ≠ timeCodeValue tail ∨ d.mergeGap ≠ timeCodeValue gap)

/-- The settings as a reply gives them. -/
def DetectSettings.fields (d : DetectSettings) : List Byte :=
  [BitVec.ofInt 8 d.threshold, yesNo d.structuredOn] ++ timeCodeField d.tail ++ timeCodeField d.mergeGap

/-- SET_DETECT (R31). -/
def requestSetDetect (threshold structured : Byte) (tail gap : Half) (s : State) : Answer :=
  if timeCodeBad tail || timeCodeBad gap then refuse stBadArg s
  else
    match boolOfByte structured with
    | none => refuse stBadArg s
    | some on =>
      let d := detectSettings threshold on tail gap
      (s.withSense { s.sense with pendingSettings := some d },
        okOrClamped (detectClamped threshold tail gap d) :: d.fields)

/-! ### SET_SCAN (R36) -/

def Interleave.ofByte (b : Byte) : Option Interleave :=
  if b = 0 then some .alternate else if b = 1 then some .sparse else none

/-- The scan list is well formed: at most 13 channels, each from 1 to 13, none twice. -/
def scanListGood (channels : List Byte) : Bool :=
  decide (channels.length ≤ 13) && channels.all (fun c => isChannel c.toNat) && decide channels.Nodup

/-- The plan of a SET_SCAN request after clamping. -/
def scanPlan (channels : List Byte) (i : Interleave) (operating offChannel margin : Half) : ScanPlan :=
  { channels := channels.map BitVec.toNat, interleave := i
    operatingLength := clampNat 50000 1000000 (timeCodeValue operating)
    offChannelLength := clampNat 20000 200000 (timeCodeValue offChannel)
    margin := clampNat 0 1000 margin.toNat }

/-- Whether the clamping changed a value. -/
def scanClamped (operating offChannel margin : Half) (p : ScanPlan) : Bool :=
  decide (p.operatingLength ≠ timeCodeValue operating ∨ p.offChannelLength ≠ timeCodeValue offChannel
    ∨ p.margin ≠ margin.toNat)

/-- SET_SCAN, its length agreeing with its count (R36). -/
def requestSetScan (channels : List Byte) (interleave : Byte) (operating offChannel margin : Half) (s : State) : Answer :=
  if !scanListGood channels || timeCodeBad operating || timeCodeBad offChannel then refuse stBadArg s
  else
    match Interleave.ofByte interleave with
    | none => refuse stBadArg s
    | some i =>
      let p := scanPlan channels i operating offChannel margin
      (s.withDwells { s.dwells with pendingPlan := some p },
        okOrClamped (scanClamped operating offChannel margin p)
          :: timeCodeField p.operatingLength ++ timeCodeField p.offChannelLength ++ le16n p.margin)

/-! ### SET_CHANNEL (R34, R147) -/

/-- The number of entries a change of channel removes (R147). -/
def entriesRemoved (s : State) : Nat := s.planner.queue.length

/-- SET_CHANNEL (R34). -/
def requestSetChannel (channel : Byte) (s : State) : Answer :=
  if !isChannel channel.toNat then refuse stBadArg s
  else if s.dwells.operating = some channel.toNat then (s, [stOk, 0])
  else (reform (changeChannel channel.toNat s), [stOk, byteOf (entriesRemoved s)])

/-! ### SURVEY (R52) -/

/-- The survey record takes a channel and a duration, and waits for its dwell boundary (R52). -/
def surveyTaken (channel duration : Nat) (s : State) : State :=
  s.withDwells { s.dwells with
    survey := { phase := .waiting, channel := channel, duration := duration, trackers := [] } }

/-- SURVEY (R52). -/
def requestSurvey (channel : Byte) (duration : Half) (s : State) : Answer :=
  if !isChannel channel.toNat || timeCodeBad duration then refuse stBadArg s
  else if s.control.mode = .standby then refuse stWrongMode s
  else if s.dwells.survey.phase ≠ .none then refuse stBusy s
  else
    let d := clampNat 20000 2000000 (timeCodeValue duration)
    (surveyTaken channel.toNat d s, okOrClamped (decide (d ≠ timeCodeValue duration)) :: timeCodeField d)

/-! ### READ_CHANNELS and RANKING (R47, R49) -/

/-- A channel record as READ_CHANNELS gives it (R47). -/
def ChannelRecord.fields (r : ChannelRecord) : List Byte :=
  yesNo r.visited :: le16n r.load ++ le16n r.unstructuredLoad ++ le32 r.lastVisitEnd ++ le16n r.visits

/-- READ_CHANNELS (R47). -/
def requestReadChannels (s : State) : Answer :=
  (s, stOk :: channelCode s.dwells.operating :: allChannels.flatMap (fun c => (s.channelRecord c).fields))

/-- RANKING (R49). -/
def requestRanking (s : State) : Answer := (s, stOk :: allChannels.flatMap (fun c => le16n (score s c)))

end Sys2Proof.Machine
end

