-- ==== Sys2Proof/Machine/TrackerRequests.lean ====
section
/-! DEFINITION. What the tracking unit's and the escalation unit's requests do and reply (R77 to R79, R81, R82, R161 to
R163). -/

namespace Sys2Proof.Machine

/-! ### DECLARE_BEACON (R77) -/

/-- The arguments of DECLARE_BEACON pass its first check. -/
def beaconGood (channel : Byte) (interval airtime : Half) : Bool :=
  !timeCodeBad interval && !timeCodeBad airtime && isChannel channel.toNat &&
    decide (20000 ≤ timeCodeValue interval ∧ timeCodeValue interval ≤ 1000000
      ∧ 100 ≤ timeCodeValue airtime ∧ timeCodeValue airtime ≤ 5000)

/-- The number of BEACON entries in the table. -/
def beaconCount (s : State) : Nat :=
  (s.tracking.entries.filter (fun t => decide (t.kind = .beacon ∧ t.state ≠ .free))).length

/-- A declared entry (R77). -/
def declaredBeacon (channel interval airtime : Nat) : Tracker :=
  { Tracker.free with
    kind := .beacon, state := .acquiring, channel := channel, period := 16 * interval, onDuration := airtime }

/-- DECLARE_BEACON (R77). -/
def requestDeclareBeacon (channel : Byte) (interval airtime : Half) (s : State) : Answer :=
  if !beaconGood channel interval airtime then refuse stBadArg s
  else if 4 ≤ beaconCount s then refuse stTableFull s
  else
    match allocate s with
    | none => refuse stTableFull s
    | some (s', id) =>
      let t := declaredBeacon channel.toNat (timeCodeValue interval) (timeCodeValue airtime)
      (reform (planChange (trackerReport id .beacon .free .acquiring .declared (s'.setTracker id t))), [stOk, byteOf id])

/-! ### FORGET (R78) -/

/-- A state whose entry's removal is a plan change (R78, R84). -/
def TrackerState.predicts : TrackerState → Bool
  | .acquiring => true
  | .locked => true
  | .free => false
  | .candidate => false
  | .dormant => false

/-- FORGET (R78). -/
def requestForget (id : Byte) (s : State) : Answer :=
  if 11 < id.toNat then refuse stBadArg s
  else if (s.tracker id.toNat).state = .free then refuse stNoSuch s
  else
    (reform (planChangeIf (s.tracker id.toNat).state.predicts (freeTracker id.toNat .forgotten s)), [stOk])

/-! ### READ_TRACKER (R79, Table 10-10) -/

/-- A span as a 16-bit field: bit c - 1 set for each channel c in it. -/
def spanField (span : List Nat) : Half :=
  BitVec.ofNat 16 ((allChannels.map (fun c => if span.contains c then 2 ^ (c - 1) else 0)).sum)

/-- The record of an entry that is not FREE (Table 10-10). -/
def Tracker.fields (t : Tracker) (id : Byte) : List Byte :=
  [id, t.kind.code, t.state.code] ++ le16 (spanField t.span)
    ++ [byteOf t.channel, byteOf ((if t.anchored then 1 else 0) + (if t.slipOverflow then 2 else 0))]
    ++ le32n t.period ++ le40 t.anchor ++ le16n t.onDuration
    ++ [byteOf t.run, byteOf t.misses, byteOf t.slips] ++ le16n t.hits ++ le32 (t.lastHit.getD 0)
    ++ le32 (if t.state = .candidate then t.rise else 0)

/-- READ_TRACKER (R79). -/
def requestReadTracker (id : Byte) (s : State) : Answer :=
  if 11 < id.toNat then refuse stBadArg s
  else if (s.tracker id.toNat).state = .free then refuse stNoSuch s
  else (s, stOk :: (s.tracker id.toNat).fields id)

/-! ### SET_TRACKING (R81, R82) -/

/-- The settings of a SET_TRACKING request after clamping; the cap is clamped against G_base as applied (R81). -/
def trackSettings (guardBase beaconGuard : Half) (rate : Byte) (guardCap : Half) (lockRun missLimit : Byte) :
    TrackSettings :=
  let g := clampNat 0 2000 (timeCodeValue guardBase)
  { guardBase := g, beaconGuard := clampNat 0 1000 (timeCodeValue beaconGuard)
    wideningRate := clampNat 0 100 rate.toNat, guardCap := clampNat g 3000 (timeCodeValue guardCap)
    lockRun := clampNat 3 15 lockRun.toNat, missLimit := clampNat 2 31 missLimit.toNat }

/-- Whether the clamping changed a value. -/
def trackingClamped (guardBase beaconGuard : Half) (rate : Byte) (guardCap : Half) (lockRun missLimit : Byte)
    (t : TrackSettings) : Bool :=
  decide (t.guardBase ≠ timeCodeValue guardBase ∨ t.beaconGuard ≠ timeCodeValue beaconGuard
    ∨ t.wideningRate ≠ rate.toNat ∨ t.guardCap ≠ timeCodeValue guardCap ∨ t.lockRun ≠ lockRun.toNat
    ∨ t.missLimit ≠ missLimit.toNat)

/-- The settings as a reply gives them (R81). -/
def TrackSettings.fields (t : TrackSettings) : List Byte :=
  timeCodeField t.guardBase ++ timeCodeField t.beaconGuard ++ [byteOf t.wideningRate] ++ timeCodeField t.guardCap
    ++ [byteOf t.lockRun, byteOf t.missLimit]

/-- The settings take effect, with the misses above a lowered limit (R82) and one plan change (R84). -/
def applyTracking (t : TrackSettings) (s : State) : State :=
  planChange (applyMissLimit (s.withTracking { s.tracking with settings := t }))

/-- SET_TRACKING (R81). -/
def requestSetTracking (guardBase beaconGuard : Half) (rate : Byte) (guardCap : Half) (lockRun missLimit : Byte)
    (s : State) : Answer :=
  if timeCodeBad guardBase || timeCodeBad beaconGuard || timeCodeBad guardCap then refuse stBadArg s
  else
    let t := trackSettings guardBase beaconGuard rate guardCap lockRun missLimit
    (reform (applyTracking t s),
      okOrClamped (trackingClamped guardBase beaconGuard rate guardCap lockRun missLimit t) :: t.fields)

/-! ### The escalation unit's requests (R161 to R163) -/

/-- SET_ESCALATION (R163). -/
def requestSetEscalation (threshold policy : Byte) (s : State) : Answer :=
  match Policy.ofByte policy with
  | none => refuse stBadArg s
  | some p =>
    let t := clampNat 1 15 threshold.toNat
    (s.withEscalation { s.escalation with threshold := t, policy := p },
      [okOrClamped (decide (t ≠ threshold.toNat)), byteOf t, p.code])

/-- The fields of a filled fault record (R161). The further count is sent as one byte (DESIGN CHOICE: log 42). -/
def FaultRecord.fields (f : FaultRecord) : List Byte :=
  le32 f.instant ++ [byteOf f.channel, f.modeBefore.code, f.policy.code, f.action.code] ++ le32 f.surpriseStart
    ++ le32n f.surpriseDuration ++ [byteOf f.further]

/-- The fault record as READ_FAULT gives it: every field 0 when it is empty (R161), the further count again as
one byte (DESIGN CHOICE: log 42). -/
def faultFields : Option FaultRecord → List Byte
  | some f => yesNo true :: f.fields
  | none => List.replicate 18 0

/-- READ_FAULT (R161). -/
def requestReadFault (s : State) : Answer := (s, stOk :: faultFields s.escalation.fault)

/-- CLEAR_FAULT: the record is emptied; the reply tells whether it was filled and its further count (R162), the
count as one byte (DESIGN CHOICE: log 42). -/
def requestClearFault (s : State) : Answer :=
  (s.withEscalation { s.escalation with fault := none },
    [stOk, yesNo s.escalation.fault.isSome, byteOf ((s.escalation.fault.map FaultRecord.further).getD 0)])

end Sys2Proof.Machine
end

