-- ==== Sys2Proof/Machine/PlannerRequests.lean ====
section
/-! DEFINITION. What the window planner's requests do and reply (R114, R115, R119, R120, R124, R129, R130, R137, R140,
R144, R149). -/

namespace Sys2Proof.Machine

/-! ### SET_RULES and READ_RULES (R114, R115) -/

def Action.ofByte (b : Byte) : Option Action := if b = 0 then some .shut else if b = 1 then some .openAir else none

/-- A rule from its three bytes, none when a byte is outside its codes. -/
def Rule.ofBytes (b : RuleBytes) : Option Rule :=
  match Predicate.ofByte b.predicate, boolOfByte b.invert, Action.ofByte b.action with
  | some p, some i, some a => some { predicate := p, invert := i, action := a }
  | _, _, _ => none

/-- The rules of a request, none when one of them is malformed. -/
def rulesOf : List RuleBytes → Option (List Rule)
  | [] => some []
  | b :: bs =>
    match Rule.ofBytes b, rulesOf bs with
    | some r, some rs => some (r :: rs)
    | _, _ => none

/-- The eight rules: those carried, and disabled rules after them (R114). -/
def fullList (rules : List Rule) : List Rule := rules ++ List.replicate (8 - rules.length) Rule.disabled

/-- The rule list and the load threshold replaced at one instant (R114). -/
def replaceRules (rules : List Rule) (threshold : Nat) (s : State) : State :=
  s.withPlanner { s.planner with rules := fullList rules, loadThreshold := threshold }

/-- SET_RULES, its length agreeing with its count (R114). -/
def requestSetRules (rules : List RuleBytes) (threshold : Half) (s : State) : Answer :=
  if rules.length = 0 ∨ 8 < rules.length then refuse stBadArg s
  else
    match rulesOf rules with
    | none => refuse stBadArg s
    | some rs =>
      let t := clampNat 0 1000 threshold.toNat
      (reform (planChange (replaceRules rs t s)), okOrClamped (decide (t ≠ threshold.toNat)) :: le16n t)

/-- A rule as its three bytes. -/
def Rule.fields (r : Rule) : List Byte := [r.predicate.code, yesNo r.invert, r.action.code]

/-- READ_RULES (R115). -/
def requestReadRules (s : State) : Answer :=
  (s, stOk :: s.planner.rules.flatMap Rule.fields ++ le16n s.planner.loadThreshold)

/-! ### ARM_TEMPLATE and DROP_TEMPLATE (R119, R120) -/

/-- Of the ids in order, the LOCKED OVEN entry covering O of highest hits, the lower id on a tie (R119). -/
def templateSource (s : State) : List Nat → Option Nat
  | [] => none
  | id :: ids =>
    let rest := templateSource s ids
    if decide ((s.tracker id).kind = .oven ∧ (s.tracker id).state = .locked)
        && (s.tracker id).coversO s.dwells.operating then
      match rest with
      | none => some id
      | some j => if (s.tracker id).hits < (s.tracker j).hits then some j else some id
    else rest

/-- The template armed from an entry (R119). -/
def templateOf (t : Tracker) (guardBase margin : Nat) : Template :=
  { period := t.period, anchor := t.anchor, onDuration := t.onDuration, ovenGuard := guardBase, margin := margin }

/-- The length of the template's window 0 (R119). -/
def Template.windowLength (t : Template) : Nat :=
  (if t.anchor.toNat % 16 = 0 then 0 else 1) + t.onDuration + 2 * (t.ovenGuard + t.margin)

/-- The margin as applied: 500 µs when the field is absent, otherwise clamped to 0 to 2,000 µs (R119). -/
def marginApplied : Option Half → Nat
  | none => 500
  | some m => clampNat 0 2000 (timeCodeValue m)

/-- Whether the margin was clamped. -/
def marginClamped : Option Half → Bool
  | none => false
  | some m => decide (clampNat 0 2000 (timeCodeValue m) ≠ timeCodeValue m)

/-- A margin field with bit 15 set. -/
def marginBad : Option Half → Bool
  | none => false
  | some m => timeCodeBad m

/-- The template replaced. -/
def State.withTemplate (s : State) (t : Option Template) : State := s.withPlanner { s.planner with template := t }

/-- ARM_TEMPLATE (R119); its reply carries the margin as a time code (DEDUCED: log 11). -/
def requestArmTemplate (margin : Option Half) (s : State) : Answer :=
  if marginBad margin then refuse stBadArg s
  else if s.control.mode = .fallback then refuse stWrongMode s
  else
    match templateSource s trackerIds with
    | none => refuse stNoLock s
    | some id =>
      let t := templateOf (s.tracker id) s.tracking.settings.guardBase (marginApplied margin)
      (planChange (s.withTemplate (some t)),
        okOrClamped (marginClamped margin) :: byteOf id
          :: timeCodeField t.margin ++ timeCodeField t.windowLength)

/-- DROP_TEMPLATE (R120). -/
def requestDropTemplate (s : State) : Answer :=
  if s.control.mode = .fallback then refuse stWrongMode s
  else if s.planner.template.isNone then refuse stNoTemplate s
  else (s.withTemplate none, [stOk])

/-! ### SET_LANES (R124) -/

/-- SET_LANES (R124). The reply gives the shared capacity as one byte, like the reserves (DESIGN CHOICE: log 40). -/
def requestSetLanes (reserveA reserveB : Byte) (s : State) : Answer :=
  if s.control.mode ≠ .standby then refuse stWrongMode s
  else
    let a := clampNat 0 6 reserveA.toNat
    let b := clampNat 0 6 reserveB.toNat
    (s.withPlanner { s.planner with reserveA := a, reserveB := b },
      [okOrClamped (decide (a ≠ reserveA.toNat ∨ b ≠ reserveB.toNat)), byteOf a, byteOf b, byteOf (16 - a - b)])

/-! ### BOOK (R129, R130) -/

/-- A one-shot of a lane holding a tag. -/
def isOneShot (e : Reservation) (l : Lane) (tag : Byte) : Bool := decide (e.lane = l ∧ e.origin = .oneShot tag)

/-- A one-shot or a series of a lane holds a tag (R129). -/
def tagLive (s : State) (l : Lane) (tag : Byte) : Bool :=
  s.planner.queue.any (fun e => isOneShot e l tag) || s.planner.series.any (fun x => decide (x.lane = l ∧ x.tag = tag))

/-- The arguments of BOOK pass its first check, the lane byte apart (R129). -/
def bookGood (tag : Byte) (length earliest deadline : Half) : Bool :=
  !timeCodeBad length && !timeCodeBad earliest && !timeCodeBad deadline &&
    decide (tag ≠ 0 ∧ 100 ≤ timeCodeValue length ∧ timeCodeValue deadline ≤ 1000000
      ∧ timeCodeValue earliest + timeCodeValue length ≤ timeCodeValue deadline)

/-- The one-shot that a BOOK places (R130). -/
def bookedEntry (s : State) (l : Lane) (tag : Byte) (d : Int) (length deadline : Nat) : Reservation :=
  let start := Instant.shift s.airClock d
  { lane := l, origin := .oneShot tag, start := start, length := length
    deadline := Instant.plus s.airClock deadline, state := stateByLead s.airClock start }

/-- The fields of a GRANTED reply (Table 10-9). -/
def grantedFields (s : State) (tag : Byte) (e : Reservation) : List Byte :=
  [stGranted, e.lane.code, tag, e.state.code] ++ le32 e.start ++ timeCodeField e.length ++ le32 s.airClock

/-- The search of a BOOK that passed its checks, and its outcome (R130). -/
def bookSearch (l : Lane) (tag : Byte) (length earliest deadline : Nat) (s : State) : Answer :=
  let s0 := max earliest 500
  match placementSearch s none s0 deadline length with
  | some d =>
    let e := bookedEntry s l tag d length deadline
    (placeEntry e s, grantedFields s tag e)
  | none =>
    let run := longestOpenRun s s0 deadline
    if run < length then (s, stTooLong :: le32n run) else refuse stNoRoom s

/-- BOOK in its order of checks (R129, R130). -/
def requestBook (lane tag : Byte) (length earliest deadline : Half) (s : State) : Answer :=
  match Lane.ofByte lane with
  | none => refuse stBadArg s
  | some l =>
    if !bookGood tag length earliest deadline then refuse stBadArg s
    else if !s.control.mode.steers then refuse stWrongMode s
    else if tagLive s l tag then refuse stDupTag s
    else if !s.planner.admits l then refuse stQueueFull s
    else bookSearch l tag (timeCodeValue length) (timeCodeValue earliest) (timeCodeValue deadline) s

/-! ### CANCEL (R137) -/

/-- The entries without the one-shot of a lane holding a tag. -/
def dropOneShot (l : Lane) (tag : Byte) (s : State) : State :=
  s.withQueue (s.planner.queue.filter (fun e => !isOneShot e l tag))

/-- CANCEL (R137). -/
def requestCancel (lane tag : Byte) (s : State) : Answer :=
  match Lane.ofByte lane with
  | none => refuse stBadArg s
  | some l =>
    if tag = 0 then refuse stBadArg s
    else
      match s.planner.queue.find? (fun e => isOneShot e l tag) with
      | none => refuse stNoSuch s
      | some e => (reform (dropOneShot l tag s), [if e.state = .opened then stEndedEarly else stOk])

/-! ### SERIES_OPEN (R140) -/

/-- The arguments of SERIES_OPEN pass its first check, the lane byte apart (R140). -/
def seriesGood (tag : Byte) (period length slide : Half) : Bool :=
  !timeCodeBad period && !timeCodeBad length && !timeCodeBad slide &&
    decide (tag ≠ 0 ∧ 2000 ≤ timeCodeValue period ∧ timeCodeValue period ≤ 200000
      ∧ 100 ≤ timeCodeValue length ∧ timeCodeValue length ≤ 8000
      ∧ 2 * timeCodeValue slide ≤ timeCodeValue period
      ∧ timeCodeValue length + timeCodeValue slide ≤ timeCodeValue period)

/-- The lowest free series id (Table 7-4). -/
def freeSeriesId (s : State) : Option Nat := seriesIds.find? (fun id => (s.seriesById id).isNone)

/-- A series put into the table in order of id. -/
def insertSeries (x : Series) : List Series → List Series
  | [] => [x]
  | y :: ys => if x.id < y.id then x :: y :: ys else y :: insertSeries x ys

/-- The series that SERIES_OPEN creates with a first occurrence at an anchor (R140). -/
def openedSeries (id : Nat) (l : Lane) (tag : Byte) (period length slide : Nat) (anchor : Instant) : Series :=
  { id := id, lane := l, tag := tag, period := period, length := length, slide := slide, anchor := anchor, index := 0
    consecutiveSkips := 0, totalSkips := 0, state := .running, retry := none }

/-- The search of a SERIES_OPEN that passed its checks, and its outcome (R140). -/
def seriesSearch (id : Nat) (l : Lane) (tag : Byte) (period length slide : Nat) (s : State) : Answer :=
  match placementSearch s none 500 (500 + period + length) length with
  | some d =>
    let anchor := Instant.shift s.airClock d
    let x := openedSeries id l tag period length slide anchor
    let s := s.withPlanner { s.planner with series := insertSeries x s.planner.series }
    (placeEntry (seriesEntry s x anchor (Instant.plus anchor (slide + length))) s,
      stOk :: byteOf id :: le32 anchor ++ timeCodeField period ++ timeCodeField length ++ timeCodeField slide)
  | none => refuse stNoRoom s

/-- SERIES_OPEN in its order of checks (R140). -/
def requestSeriesOpen (lane tag : Byte) (period length slide : Half) (s : State) : Answer :=
  match Lane.ofByte lane with
  | none => refuse stBadArg s
  | some l =>
    if !seriesGood tag period length slide then refuse stBadArg s
    else if !s.control.mode.steers then refuse stWrongMode s
    else if tagLive s l tag then refuse stDupTag s
    else if 4 ≤ s.planner.series.length then refuse stTableFull s
    else if !s.planner.admits l then refuse stQueueFull s
    else
      match freeSeriesId s with
      | none => refuse stTableFull s
      | some id => seriesSearch id l tag (timeCodeValue period) (timeCodeValue length) (timeCodeValue slide) s

/-! ### SERIES_CLOSE (R144) -/

/-- The series of an id removed with every entry it holds (R144). -/
def dropSeries (id : Nat) (s : State) : State :=
  s.withPlanner { s.planner with
    series := s.planner.series.filter (fun x => decide (x.id ≠ id))
    queue := s.planner.queue.filter (fun e => decide (e.origin ≠ .series id)) }

/-- An entry of the series is OPEN. -/
def seriesIsOpen (s : State) (id : Nat) : Bool :=
  s.planner.queue.any (fun e => decide (e.origin = .series id ∧ e.state = .opened))

/-- SERIES_CLOSE (R144). -/
def requestSeriesClose (lane tag : Byte) (s : State) : Answer :=
  match Lane.ofByte lane with
  | none => refuse stBadArg s
  | some l =>
    if tag = 0 then refuse stBadArg s
    else
      match s.planner.series.find? (fun x => decide (x.lane = l ∧ x.tag = tag)) with
      | none => refuse stNoSuch s
      | some x => (reform (dropSeries x.id s), [if seriesIsOpen s x.id then stEndedEarly else stOk])

/-! ### READ_BOOKINGS (R149) -/

/-- An entry as READ_BOOKINGS gives it. -/
def entryFields (s : State) (e : Reservation) : List Byte :=
  [e.lane.code, e.origin.code, s.entryTag e.origin, e.state.code] ++ le32 e.start ++ le32 e.deadline
    ++ timeCodeField e.length

/-- A series as READ_BOOKINGS gives it, in the order of R149: index and consecutive skips take a byte each, total skips two
bytes, and the mark telling whether a retry instant is held stands after it (DESIGN CHOICE: log 10). -/
def Series.fields (x : Series) : List Byte :=
  [byteOf x.id, x.lane.code, x.tag] ++ timeCodeField x.period ++ timeCodeField x.length ++ timeCodeField x.slide
    ++ le32 x.anchor ++ [byteOf x.index, byteOf x.consecutiveSkips] ++ le16n x.totalSkips ++ [x.state.code]
    ++ le32 (x.retry.getD 0) ++ [yesNo x.retry.isSome]

/-- READ_BOOKINGS (R149). -/
def requestReadBookings (part : Byte) (s : State) : Answer :=
  if part = 0 then
    (s, [stOk, byteOf s.planner.reserveA, byteOf s.planner.reserveB, byteOf s.planner.queue.length]
      ++ s.planner.queue.flatMap (entryFields s))
  else if part = 1 then
    (s, [stOk, byteOf s.planner.series.length] ++ s.planner.series.flatMap Series.fields)
  else refuse stBadArg s

end Sys2Proof.Machine
end

