-- ==== Sys2Proof/Machine/Serve.lean ====
section
/-! DEFINITION. The request kinds and the taking of a request frame: its length is checked against Table 10-3, its fields
are read in the order of R196, and the owning block carries it out (R187). -/

namespace Sys2Proof.Machine

/-- The defined request kinds (Table 10-3). -/
inductive RequestKind where
  | ident | status | time | setReports | clearFlags | restart | start | stop | setMode | resume
  | setDetect | setScan | setChannel | survey | readChannels | ranking
  | declareBeacon | forget | readTracker | setTracking
  | setRules | readRules | armTemplate | dropTemplate
  | book | cancel | seriesOpen | seriesClose | setLanes | readBookings
  | setEscalation | readFault | clearFault
  deriving DecidableEq, Repr

/-- The KIND byte of a request kind (Table 10-3). -/
def RequestKind.code : RequestKind → Byte
  | .ident => 0x01 | .status => 0x02 | .time => 0x03 | .setReports => 0x04 | .clearFlags => 0x05 | .restart => 0x06
  | .start => 0x08 | .stop => 0x09 | .setMode => 0x0A | .resume => 0x0B
  | .setDetect => 0x10 | .setScan => 0x11 | .setChannel => 0x12 | .survey => 0x13 | .readChannels => 0x14
  | .ranking => 0x15
  | .declareBeacon => 0x18 | .forget => 0x19 | .readTracker => 0x1A | .setTracking => 0x1B
  | .setRules => 0x20 | .readRules => 0x21 | .armTemplate => 0x22 | .dropTemplate => 0x23
  | .book => 0x28 | .cancel => 0x29 | .seriesOpen => 0x2A | .seriesClose => 0x2B | .setLanes => 0x2C
  | .readBookings => 0x2D
  | .setEscalation => 0x30 | .readFault => 0x31 | .clearFault => 0x32

/-- Every request kind, in the order of Table 10-3. -/
def RequestKind.all : List RequestKind :=
  [.ident, .status, .time, .setReports, .clearFlags, .restart, .start, .stop, .setMode, .resume,
   .setDetect, .setScan, .setChannel, .survey, .readChannels, .ranking,
   .declareBeacon, .forget, .readTracker, .setTracking,
   .setRules, .readRules, .armTemplate, .dropTemplate,
   .book, .cancel, .seriesOpen, .seriesClose, .setLanes, .readBookings,
   .setEscalation, .readFault, .clearFault]

/-- The request kind that a KIND byte names, if any (R186, check 3). -/
def RequestKind.ofByte (b : Byte) : Option RequestKind := RequestKind.all.find? (fun k => decide (k.code = b))

/-! ### The bytes of SET_SCAN and SET_RULES -/

/-- The fields of SET_SCAN after its count byte, when the length agrees with the count (R36, R187). -/
def serveSetScan (count : Byte) (rest : List Byte) (s : State) : Answer :=
  if rest.length = count.toNat + 7 then
    match rest.drop count.toNat with
    | [i, o0, o1, f0, f1, m0, m1] =>
      requestSetScan (rest.take count.toNat) i (half o0 o1) (half f0 f1) (half m0 m1) s
    | _ => refuse stBadLength s
  else refuse stBadLength s

/-- Bytes three at a time as rules; bytes left over are no rule. -/
def ruleTriples : List Byte → List RuleBytes
  | p :: i :: a :: rest => { predicate := p, invert := i, action := a } :: ruleTriples rest
  | [] => []
  | [_] => []
  | [_, _] => []

/-- The fields of SET_RULES after its count byte, when the length agrees with the count (R114, R187). -/
def serveSetRules (count : Byte) (rest : List Byte) (s : State) : Answer :=
  if rest.length = 3 * count.toNat + 2 then
    match rest.drop (3 * count.toNat) with
    | [t0, t1] => requestSetRules (ruleTriples (rest.take (3 * count.toNat))) (half t0 t1) s
    | _ => refuse stBadLength s
  else refuse stBadLength s

/-! ### A request handed to its block (R187) -/

/-- A taken request: a payload length that the kind does not allow is answered BAD_LENGTH and reaches no block; any other
is carried out by the owning block (R187). -/
def serveKind (k : RequestKind) (payload : List Byte) (s : State) : Answer :=
  match k, payload with
  | .ident, [] => requestIdent s
  | .status, [] => requestStatus s
  | .time, [] => requestTime s
  | .setReports, [e] => requestSetReports e s
  | .clearFlags, [f, c] => requestClearFlags f c s
  | .restart, [k] => requestRestart k s
  | .start, [m] => requestStart m s
  | .stop, [] => requestStop s
  | .setMode, [m] => requestSetMode m s
  | .resume, [] => requestResume s
  | .setDetect, [th, st, t0, t1, g0, g1] => requestSetDetect th st (half t0 t1) (half g0 g1) s
  | .setScan, count :: rest => serveSetScan count rest s
  | .setChannel, [c] => requestSetChannel c s
  | .survey, [c, d0, d1] => requestSurvey c (half d0 d1) s
  | .readChannels, [] => requestReadChannels s
  | .ranking, [] => requestRanking s
  | .declareBeacon, [c, i0, i1, a0, a1] => requestDeclareBeacon c (half i0 i1) (half a0 a1) s
  | .forget, [id] => requestForget id s
  | .readTracker, [id] => requestReadTracker id s
  | .setTracking, [g0, g1, b0, b1, r, c0, c1, l, m] =>
    requestSetTracking (half g0 g1) (half b0 b1) r (half c0 c1) l m s
  | .setRules, count :: rest => serveSetRules count rest s
  | .readRules, [] => requestReadRules s
  | .armTemplate, [] => requestArmTemplate none s
  | .armTemplate, [m0, m1] => requestArmTemplate (some (half m0 m1)) s
  | .dropTemplate, [] => requestDropTemplate s
  | .book, [l, t, l0, l1, e0, e1, d0, d1] => requestBook l t (half l0 l1) (half e0 e1) (half d0 d1) s
  | .cancel, [l, t] => requestCancel l t s
  | .seriesOpen, [l, t, p0, p1, l0, l1, j0, j1] => requestSeriesOpen l t (half p0 p1) (half l0 l1) (half j0 j1) s
  | .seriesClose, [l, t] => requestSeriesClose l t s
  | .setLanes, [a, b] => requestSetLanes a b s
  | .readBookings, [p] => requestReadBookings p s
  | .setEscalation, [t, p] => requestSetEscalation t p s
  | .readFault, [] => requestReadFault s
  | .clearFault, [] => requestClearFault s
  | _, _ => refuse stBadLength s

/-- The reply to a frame: its kind plus 0x80, its ticket, and a payload (R188). -/
def replyFrame (f : Frame) (payload : List Byte) : Frame :=
  { kind := f.kind + 0x80#8, ticket := f.ticket, payload := payload }

/-- A REJECT: the status and the received KIND, with the received TICKET (R186, R188). -/
def rejectFrame (f : Frame) (status : Byte) : Frame :=
  { kind := 0xFF#8, ticket := f.ticket, payload := [status, f.kind] }

/-- What the owning block does with a taken frame, and its reply's payload. The inbox holds only frames of defined
kinds (R186). -/
def serve (f : Frame) (s : State) : Answer :=
  match RequestKind.ofByte f.kind with
  | some k => serveKind k f.payload s
  | none => refuse stBadLength s

end Sys2Proof.Machine
end

