-- ==== Sys2Proof/WellFormed.lean ====
section
/-! DEFINITION. Which commands can be spelled on the part's inputs. -/

namespace Sys2Proof

/-- The largest payload of a frame (R182). -/
def maxPayload : Nat := 240

/-- A command is well formed when its frame fits the line (a payload of at most 240 bytes, R182) and the tracker entry
it names exists (ids 0 to 11, R58). An energy level is a measurement and may be any integer (R15). -/
def Instr.wellFormed : Instr → Bool
  | .setScan _ _ channels _ _ _ _ => decide (8 + channels.length ≤ maxPayload)
  | .setRules _ _ rules _ => decide (3 + 3 * rules.length ≤ maxPayload)
  | .riseTest id => decide (id < 12)
  | .candidateExpiry id => decide (id < 12)
  | .trackerAgeLimit id => decide (id < 12)
  | .dormantAgeLimit id => decide (id < 12)
  | .guardStep id => decide (id < 12)
  | .ident _ | .status _ | .time _ | .setReports _ _ | .clearFlags _ _ _ => true
  | .restart _ _ | .start _ _ | .stop _ | .setMode _ _ | .resume _ => true
  | .setDetect _ _ _ _ _ | .setChannel _ _ | .survey _ _ _ | .readChannels _ | .ranking _ => true
  | .declareBeacon _ _ _ _ | .forget _ _ | .readTracker _ _ | .setTracking _ _ _ _ _ _ _ => true
  | .readRules _ | .armTemplate _ _ | .dropTemplate _ => true
  | .book _ _ _ _ _ _ | .cancel _ _ _ | .seriesOpen _ _ _ _ _ _ | .seriesClose _ _ _ => true
  | .setLanes _ _ _ | .readBookings _ _ => true
  | .setEscalation _ _ _ | .readFault _ | .clearFault _ => true
  | .characterReceived _ _ | .frameComplete | .frameTimeout | .rxdLowTimeout | .rxdBreak | .frameTransmitted => true
  | .resetNLow | .powerUp | .leaveReset _ _ => true
  | .txonRise | .txonFall | .blankingEnd | .settlingEnd | .energyReading _ _ | .longBurstCut => true
  | .gapEndRelease | .spanLimitRelease | .scoreDrain | .dwellEnd | .observedSinceAdvance => true
  | .windowEdge | .templateAnchorAdvance | .commitPoint | .windowStart | .windowEnd | .seriesRetry => true
  | .rxdReturnsHigh => true

end Sys2Proof
end

