-- ==== Sys2Proof/Machine/Receiver.lean ====
section
/-! DEFINITION. The link controller: taking requests from the inbox, judging frames, the receiver's characters, low
levels on RXD and the end of a frame on TXD (R175, R176, R181, R184 to R189). -/

namespace Sys2Proof.Machine

/-! ### Taking requests (R187) -/

/-- A request is taken at once: carried out, its reply placed, and the transmitter offered it (R187, R189).
A reply goes before a report of the same step (DESIGN CHOICE: log 9). -/
def takeFrame (f : Frame) (s : State) : State :=
  let out := serve f s
  pump (placeReply (replyFrame f out.2) out.1)

/-- The conditions under which the oldest frame of the inbox is taken (R187). -/
def mayTake (s : State) : Bool := s.control.mark.isNone && decide (s.link.replies.length ≤ 2)

/-- Frames taken one after another while the conditions hold; `n` bounds how many, and the inbox holds no more. -/
def takeFrames : Nat → State → State
  | 0, s => s
  | n + 1, s =>
    match s.link.inbox with
    | [] => s
    | f :: rest =>
      if mayTake s then takeFrames n (takeFrame f (s.withLink { s.link with inbox := rest })) else s

/-- The inbox is served as far as the reply queue allows (R187). -/
def serveInbox (s : State) : State := takeFrames s.link.inbox.length s

/-! ### Judging a frame (R186) -/

/-- A good frame: it joins the inbox and is taken when it may be, or is answered FULL (R186, R187). -/
def acceptFrame (f : Frame) (s : State) : State :=
  if s.link.inbox.length < 4 then serveInbox (s.withLink { s.link with inbox := s.link.inbox ++ [f] })
  else pump (placeOrDrop (replyFrame f [stFull]) s)

/-- A frame with a bad CRC: a REJECT and one link error, one in all when the REJECT finds no place (R186). -/
def rejectBadCrc (f : Frame) (s : State) : State :=
  let s := countLinkError s
  if s.link.replies.length < 4 then pump (placeReply (rejectFrame f stBadCrc) s) else s

/-- The checks of a complete frame, in order (R186). -/
def judge (f : Frame) (crc : Byte) (s : State) : State :=
  if s.control.mark.isSome then s
  else if crc ≠ crc8 f.covered then rejectBadCrc f s
  else if (RequestKind.ofByte f.kind).isNone then pump (placeOrDrop (rejectFrame f stUnknownKind) s)
  else acceptFrame f s

/-- The receiver set to HUNTING. -/
def huntAgain (s : State) : State := s.withLink { s.link with receiver := .hunting }

/-- A complete frame, its CRC byte taken, stands in the receiver until it is judged (DESIGN CHOICE: log 29). -/
def completeFrame (s : State) : Option (Frame × Byte) :=
  match s.link.receiver with
  | .check _ _ kind ticket bytes (some crc) => some ({ kind := kind, ticket := ticket, payload := bytes }, crc)
  | .check _ _ _ _ _ none => none
  | .hunting => none
  | .header _ _ => none
  | .payload _ _ _ _ _ => none

/-- A complete frame is judged, and the receiver hunts again (R186). -/
def judgeComplete (s : State) : State :=
  match completeFrame s with
  | some (f, crc) => judge f crc (huntAgain s)
  | none => s

/-! ### Characters (R181, R184, R185) -/

/-- The frame being received is dropped with one link error (R184, R185). -/
def dropFrame (s : State) : State := countLinkError (huntAgain s)

/-- The frame in HEADER, PAYLOAD or CHECK, if any, is dropped with one link error; in HUNTING nothing is (R185). -/
def dropIfReceiving (s : State) : State :=
  match s.link.receiver with
  | .hunting => s
  | .header _ _ => dropFrame s
  | .payload _ _ _ _ _ => dropFrame s
  | .check _ _ _ _ _ _ => dropFrame s

/-- The instant of the start bit of a character taken now: its stop bit has just been sampled (R181;
DEDUCED: log 15). -/
def characterStart (s : State) : Instant := Instant.minus s.airClock 10

/-- The receiver after a good character in HEADER (R184). -/
def headerNext (syncAt : Instant) (bytes : List Byte) (b : Byte) : Receiver :=
  match bytes with
  | [len, kind] => if len = 0 then .check syncAt len kind b [] none else .payload syncAt len kind b []
  | _ => .header syncAt (bytes ++ [b])

/-- The receiver after a good character in PAYLOAD (R184). -/
def payloadNext (syncAt : Instant) (len kind ticket : Byte) (bytes : List Byte) (b : Byte) : Receiver :=
  if len.toNat ≤ bytes.length + 1 then .check syncAt len kind ticket (bytes ++ [b]) none
  else .payload syncAt len kind ticket (bytes ++ [b])

/-- The receiver's state replaced. -/
def State.withReceiver (s : State) (r : Receiver) : State := s.withLink { s.link with receiver := r }

/-- A good character advances the receiver (R184). -/
def receiveByte (b : Byte) (s : State) : State :=
  match s.link.receiver with
  | .hunting => if b = 0xA5#8 then s.withReceiver (.header (characterStart s) []) else s
  | .header syncAt bytes =>
    if bytes.isEmpty && decide (maxPayload < b.toNat) then dropFrame s
    else s.withReceiver (headerNext syncAt bytes b)
  | .payload syncAt len kind ticket bytes => s.withReceiver (payloadNext syncAt len kind ticket bytes b)
  | .check syncAt len kind ticket bytes none => s.withReceiver (.check syncAt len kind ticket bytes (some b))
  | .check _ _ _ _ _ (some _) => s

/-- How many bits of the byte there are up to and with its highest 1, and so 0 for the byte 0. -/
def significantBits (b : Byte) : Nat := ((List.range 8).filter (fun i => decide (2 ^ i ≤ b.toNat))).length

/-- The instant at which RXD fell to the low level that runs through the stop bit of a character taken now: the start
bit when every data bit was 0, and otherwise the end of the last data bit that was 1 (R181, R176; DEDUCED: log 15). -/
def lowLevelFall (b : Byte) (s : State) : Instant :=
  if b = 0 then characterStart s else Instant.plus (characterStart s) (1 + significantBits b)

/-- A framing error: the data are discarded, the receiver waits for RXD to be high, the frame being received is dropped,
and the low level is measured from its fall (R176, R181, R185). -/
def framingError (b : Byte) (s : State) : State :=
  let fall := lowLevelFall b s
  let s := dropIfReceiving s
  s.withLink { s.link with waitHigh := true, rxdLow := some { fall := fall, restarted := false } }

/-- A character whose stop bit has been sampled (R181, R184). While the receiver waits for RXD to be high it begins no
character. A frame completed by an earlier character is judged first. -/
def takeCharacter (b : Byte) (stopHigh : Bool) (s : State) : State :=
  if s.link.waitHigh then s
  else if stopHigh then receiveByte b (judgeComplete s)
  else framingError b (judgeComplete s)

/-- The instant of the SYNC's start bit of a frame whose CRC byte has not been taken. -/
def unfinishedSince (r : Receiver) : Option Instant :=
  match r with
  | .hunting => none
  | .header syncAt _ => some syncAt
  | .payload syncAt _ _ _ _ => some syncAt
  | .check syncAt _ _ _ _ none => some syncAt
  | .check _ _ _ _ _ (some _) => none

/-- The frame being received has run 3,000 µs from its SYNC's start bit (R185). -/
def frameOverdue (s : State) : Bool :=
  match unfinishedSince s.link.receiver with
  | some t => decide (3000 ≤ Instant.elapsed t s.airClock)
  | none => false

/-- RXD has been low for 1,000 µs without a break (R185). -/
def lowForLong (s : State) : Bool :=
  match s.link.rxdLow with
  | some w => decide (1000 ≤ Instant.elapsed w.fall s.airClock)
  | none => false

/-- At 1,000 µs of low level the receiver hunts and waits for RXD to be high (R185). -/
def lowLevelTimeout (s : State) : State :=
  let s := huntAgain (dropIfReceiving s)
  s.withLink { s.link with waitHigh := true }

/-- RXD returns high: the receiver may begin a character again, and the low level ends (R181). -/
def rxdHighAgain (s : State) : State := s.withLink { s.link with waitHigh := false, rxdLow := none }

/-! ### The end of a frame on TXD (R174, R189) -/

/-- The last stop bit of the frame on TXD has been sent. -/
def sendingOver (s : State) : Bool :=
  match s.link.sending with
  | some x => Instant.atOrBefore x.endsAt s.airClock
  | none => false

/-- The frame on TXD is the reply to a RESTART that was taken: it carries status OK (R174). -/
def isRestartReply (f : Frame) : Bool := decide (f.kind = 0x86#8) && decide (f.payload.head? = some stOk)

/-- The restart that has waited for the frame on TXD, if any (R174). -/
def restartAfter (s : State) : Option RestartKind :=
  match s.link.sending with
  | some x => if isRestartReply x.frame then s.control.mark else none
  | none => none

/-- The transmitter becomes FREE (R189). -/
def freeTransmitter (s : State) : State := s.withLink { s.link with sending := none }

/-- A frame has been sent: the restart that waited for it takes place (R174), or the transmitter begins the next frame
and the freed place lets a request be taken (R187, R189). -/
def frameSent (s : State) : State :=
  match restartAfter s with
  | some kind => pump (markedRestart kind s)
  | none => serveInbox (pump (freeTransmitter s))

end Sys2Proof.Machine
end

