-- ==== Sys2Proof/Machine/LineCommands.lean ====
section
/-! DEFINITION. The events of the serial line and of reset as commands (R12, R174 to R177, R181, R184 to R186, R189). An
event whose condition does not hold at the present instant is not that event, and changes nothing. -/

namespace Sys2Proof.Machine

/-- An effect taken only when its condition holds (DESIGN CHOICE: log 7). -/
def whenDue (due : State → Bool) (f : State → State) (s : State) : State := if due s then f s else s

/-- CHARACTER_RECEIVED (R181, R184). -/
def execCharacterReceived (data : Byte) (stopHigh : Bool) (s : State) : Host.Outcome State Fault Refusal :=
  outOfReset (takeCharacter data stopHigh) s

/-- FRAME_COMPLETE (R186). -/
def execFrameComplete (s : State) : Host.Outcome State Fault Refusal := outOfReset judgeComplete s

/-- FRAME_TIMEOUT (R185). -/
def execFrameTimeout (s : State) : Host.Outcome State Fault Refusal := outOfReset (whenDue frameOverdue dropFrame) s

/-- RXD_LOW_TIMEOUT (R185). -/
def execRxdLowTimeout (s : State) : Host.Outcome State Fault Refusal :=
  outOfReset (whenDue lowForLong lowLevelTimeout) s

/-- BREAK (R176). -/
def execRxdBreak (s : State) : Host.Outcome State Fault Refusal :=
  outOfReset (whenDue breakDue (fun s => pump (breakRestart s))) s

/-- FRAME_TRANSMITTED (R174, R189). -/
def execFrameTransmitted (s : State) : Host.Outcome State Fault Refusal := outOfReset (whenDue sendingOver frameSent) s

/-- RXD_RETURNS_HIGH (R181). -/
def execRxdReturnsHigh (s : State) : Host.Outcome State Fault Refusal := outOfReset rxdHighAgain s

/-- RESET_N_LOW: the level has been low for 10 µs (R12, R177). -/
def execResetNLow (s : State) : Host.Outcome State Fault Refusal :=
  .next (enterReset (ResetHold.joined s.control.hold) s)

/-- POWER_UP: a cold start held until the supply is good (R12, R177). -/
def execPowerUp (s : State) : Host.Outcome State Fault Refusal := .next (enterReset .powerUp s)

/-- LEAVE_RESET: RESET_N is high and the supply good (R177). -/
def execLeaveReset (rxdHigh txonHigh : Bool) (s : State) : Host.Outcome State Fault Refusal :=
  .next (if s.control.hold.isSome then pump (leaveReset rxdHigh txonHigh s) else s)

end Sys2Proof.Machine
end

