-- ==== Sys2Proof/Machine/BlockEvents.lean ====
section
/-! DEFINITION. The events of the sense receiver, dwell scheduler, escalation unit, tracking unit and window planner as
commands. An event whose condition does not hold at the present instant is not that event, and changes nothing. Where an
event can change the presented code the lines are re-formed after it (R117), and a report it hands over may begin on
TXD at once (R189). -/

namespace Sys2Proof.Machine

/-- The end of an event: the lines re-formed, and the transmitter offered what waits (R117, R189). -/
def settle (s : State) : State := pump (reform s)

/-- The outcome of an event with its condition (R12). -/
def event (due : State → Bool) (f : State → State) (s : State) : Host.Outcome State Fault Refusal :=
  outOfReset (whenDue due (fun s => settle (f s))) s

/-! ### Sense receiver (chapter 2) -/

/-- TXON_RISE (R20, R21). -/
def execTxonRise (s : State) : Host.Outcome State Fault Refusal := outOfReset (fun s => settle (startBlanking s)) s

/-- TXON_FALL (R20). -/
def execTxonFall (s : State) : Host.Outcome State Fault Refusal := outOfReset startTail s

/-- BLANKING_END (R20, R29). -/
def execBlankingEnd (s : State) : Host.Outcome State Fault Refusal := outOfReset (whenDue tailOver endBlanking) s

/-- SETTLING_END (R13, R29). -/
def execSettlingEnd (s : State) : Host.Outcome State Fault Refusal := outOfReset (whenDue settlingOver endSettling) s

/-- ENERGY_READING (R15 to R19). -/
def execEnergyReading (level : Int) (preamble : Bool) (s : State) : Host.Outcome State Fault Refusal :=
  event readingDue (takeReading level preamble) s

/-- LONG_BURST_CUT (R22). -/
def execLongBurstCut (s : State) : Host.Outcome State Fault Refusal := event longBurstDue cutLongBurst s

/-- GAP_END_RELEASE (R24). -/
def execGapEndRelease (s : State) : Host.Outcome State Fault Refusal :=
  event gapEndReached (fun s => sweepPending (releaseHeld s)) s

/-- SPAN_LIMIT_RELEASE (R24). -/
def execSpanLimitRelease (s : State) : Host.Outcome State Fault Refusal :=
  event spanLimitReached (fun s => sweepPending (releaseHeld s)) s

/-- OBSERVED_SINCE_ADVANCE (R5). -/
def execObservedSinceAdvance (s : State) : Host.Outcome State Fault Refusal :=
  outOfReset (whenDue observedTooOld advanceObserved) s

/-! ### Escalation unit and dwell scheduler (chapters 8 and 3) -/

/-- The present instant is a whole multiple of 250,000 µs, and its drain has not been taken (R153). -/
def drainDue (s : State) : Bool := decide (s.airClock.toNat % 250000 = 0) && !s.escalation.drained

/-- SCORE_DRAIN (R153). -/
def execScoreDrain (s : State) : Host.Outcome State Fault Refusal := outOfReset (whenDue drainDue drainScore) s

/-- DWELL_END (R38, R43). -/
def execDwellEnd (s : State) : Host.Outcome State Fault Refusal := event dwellOver endDwell s

/-! ### Tracking unit (chapter 4) -/

/-- A change of the tracking unit with its plan-change notice, if it owes one (R84). -/
def noticed (f : State → Noticed) (s : State) : State := planChangeIf (f s).2 (f s).1

/-- RISE_TEST for the entry of an id (R72). -/
def execRiseTest (id : Nat) (s : State) : Host.Outcome State Fault Refusal :=
  event (fun s => riseDue s id) (noticed (decideRise id)) s

/-- CANDIDATE_EXPIRY for the entry of an id (R70). -/
def execCandidateExpiry (id : Nat) (s : State) : Host.Outcome State Fault Refusal :=
  event (fun s => candidateExpired s id) (freeTracker id .age) s

/-- TRACKER_AGE_LIMIT for the entry of an id (R75). -/
def execTrackerAgeLimit (id : Nat) (s : State) : Host.Outcome State Fault Refusal :=
  event (fun s => trackerAged s id) (noticed (ageTracker id)) s

/-- DORMANT_AGE_LIMIT for the entry of an id (R76). -/
def execDormantAgeLimit (id : Nat) (s : State) : Host.Outcome State Fault Refusal :=
  event (fun s => dormantAged s id) (noticed (ageDormant id)) s

/-- The guard of a LOCKED OVEN entry steps at the present instant: its age has reached a further 100,000 µs (R100). -/
def guardSteps (s : State) (id : Nat) : Bool :=
  decide ((s.tracker id).kind = .oven ∧ (s.tracker id).state = .locked
    ∧ 0 < (s.tracker id).age s.airClock ∧ (s.tracker id).age s.airClock % 100000 = 0)

/-- GUARD_STEP for the entry of an id: its windows take the wider guard, which follows from its age, and the lines are
re-formed (R100, R102, R103). -/
def execGuardStep (id : Nat) (s : State) : Host.Outcome State Fault Refusal :=
  outOfReset (whenDue (fun s => guardSteps s id) reform) s

/-! ### Window planner (chapters 6 and 7) -/

/-- WINDOW_EDGE (R117). -/
def execWindowEdge (s : State) : Host.Outcome State Fault Refusal := outOfReset reform s

/-- The template's anchor has an age of 600,000,000 µs or more (R105). An anchor still to come has no age (R4): a hit
whose record was cut short leaves one after the present instant (R93). -/
def templateOld (s : State) : Bool :=
  match s.planner.template with
  | some t =>
    Instant.atOrBefore (Sixteenth.down t.anchor) s.airClock &&
      decide (600000000 ≤ Instant.elapsed (Sixteenth.down t.anchor) s.airClock)
  | none => false

/-- The template with its anchor advanced by the whole periods of 300 s (R105). -/
def Template.advanced (t : Template) : Template :=
  { t with anchor := Sixteenth.plus t.anchor ((4800000000 / t.period : Nat) * t.period) }

/-- TEMPLATE_ANCHOR_ADVANCE (R105). -/
def execTemplateAnchorAdvance (s : State) : Host.Outcome State Fault Refusal :=
  outOfReset (whenDue templateOld (fun s => s.withTemplate (s.planner.template.map Template.advanced))) s

/-- The first PENDING entry that has reached its commit point (R131). -/
def commitDue (s : State) : Option Reservation :=
  s.planner.queue.find? (fun e => decide (e.state = .pending ∧ e.startOffset s.airClock ≤ commitLead))

/-- A commit point taken for the first entry that has reached it (R131). -/
def takeCommitPoint (s : State) : State :=
  match commitDue s with
  | some e => recheck e.start s
  | none => s

/-- COMMIT_POINT (R131). -/
def execCommitPoint (s : State) : Host.Outcome State Fault Refusal :=
  outOfReset (whenDue (fun s => (commitDue s).isSome) (fun s => pump (takeCommitPoint s))) s

/-- The first COMMITTED entry that has reached its start (R134). -/
def startDue (s : State) : Option Reservation :=
  s.planner.queue.find? (fun e => decide (e.state = .committed ∧ e.startOffset s.airClock ≤ 0))

/-- The first COMMITTED entry that has reached its start opens (R134). -/
def takeWindowStart (s : State) : State :=
  match startDue s with
  | some e => openEntry e s
  | none => s

/-- WINDOW_START (R134). -/
def execWindowStart (s : State) : Host.Outcome State Fault Refusal :=
  event (fun s => (startDue s).isSome) takeWindowStart s

/-- The first OPEN entry that has reached its end (R135). -/
def endDue (s : State) : Option Reservation :=
  s.planner.queue.find? (fun e => decide (e.state = .opened ∧ e.endOffset s.airClock ≤ 0))

/-- The first OPEN entry that has reached its end is removed (R135). -/
def takeWindowEnd (s : State) : State :=
  match endDue s with
  | some e => removeEntry e.start s
  | none => s

/-- WINDOW_END (R135). -/
def execWindowEnd (s : State) : Host.Outcome State Fault Refusal := event (fun s => (endDue s).isSome) takeWindowEnd s

/-- A RUNNING series whose retry instant has been reached (R143). -/
def retryReached (s : State) (id : Nat) : Bool :=
  match s.seriesById id with
  | some x =>
    match x.retry with
    | some r => decide (x.state = .running) && Instant.atOrBefore r s.airClock
    | none => false
  | none => false

/-- The lowest id whose retry instant has been reached (R143). -/
def retryDue (s : State) : Option Nat := seriesIds.find? (retryReached s)

/-- A retry instant taken for the lowest id that has reached it (R143). -/
def takeRetry (s : State) : State :=
  match retryDue s with
  | some id => rebase id .retry s
  | none => s

/-- SERIES_RETRY (R143). -/
def execSeriesRetry (s : State) : Host.Outcome State Fault Refusal :=
  outOfReset (whenDue (fun s => (retryDue s).isSome) (fun s => pump (takeRetry s))) s

end Sys2Proof.Machine
end

