-- ==== Sys2Proof/Machine/Clock.lean ====
section
/-! DEFINITION. What the part does on its own: the events due at the present instant, and the passing of one microsecond
(R1). -/

namespace Sys2Proof.Machine

/-- A low level of 1,000 µs has not yet had its effect on the receiver (R185). -/
def lowTimeoutDue (s : State) : Bool :=
  lowForLong s && (decide (s.link.receiver ≠ .hunting) || !s.link.waitHigh)

/-- An event in a list when it is due. -/
def listed (due : Bool) (e : Instr) : List Instr := if due then [e] else []

/-- The events of the line that are due. -/
def lineEventsDue (s : State) : List Instr :=
  listed (completeFrame s).isSome .frameComplete ++ listed (frameOverdue s) .frameTimeout
    ++ listed (lowTimeoutDue s) .rxdLowTimeout ++ listed (breakDue s) .rxdBreak
    ++ listed (sendingOver s) .frameTransmitted

/-- The events of the sense receiver, the dwell scheduler and the escalation unit that are due. -/
def senseEventsDue (s : State) : List Instr :=
  listed (tailOver s) .blankingEnd ++ listed (settlingOver s) .settlingEnd ++ listed (longBurstDue s) .longBurstCut
    ++ listed (gapEndReached s) .gapEndRelease ++ listed (spanLimitReached s) .spanLimitRelease
    ++ listed (observedTooOld s) .observedSinceAdvance ++ listed (drainDue s) .scoreDrain
    ++ listed (dwellOver s) .dwellEnd

/-- The events of one tracker entry that are due. -/
def trackerEventsDue (s : State) (id : Nat) : List Instr :=
  listed (riseDue s id) (.riseTest id) ++ listed (candidateExpired s id) (.candidateExpiry id)
    ++ listed (trackerAged s id) (.trackerAgeLimit id) ++ listed (dormantAged s id) (.dormantAgeLimit id)

/-- The events of the window planner that are due. A window edge, and a guard step that moves one over the present
instant, is due when the code on the lines is not the one the mode gives (R117). -/
def plannerEventsDue (s : State) : List Instr :=
  listed (decide (formedCode s ≠ s.planner.lines)) .windowEdge ++ listed (templateOld s) .templateAnchorAdvance
    ++ listed (commitDue s).isSome .commitPoint ++ listed (startDue s).isSome .windowStart
    ++ listed (endDue s).isSome .windowEnd ++ listed (retryDue s).isSome .seriesRetry

/-- Every event that is due at the present instant by the part's own state. -/
def eventsDue (s : State) : List Instr :=
  lineEventsDue s ++ senseEventsDue s ++ trackerIds.flatMap (trackerEventsDue s) ++ plannerEventsDue s

/-- A microsecond of the current dwell counts as observed while the receiver is observing (R45). -/
def Dwells.observe (d : Dwells) (observing : Bool) : Dwells :=
  if observing then { d with current := d.current.map (fun x => { x with observed := x.observed + 1 }) } else d

/-- What the sense receiver notes on leaving an instant: the code shown at a reading's instant and at a restart point
(R27; DEDUCED: log 28). The marks of log 16 are cleared. -/
def Sense.leaving (x : Sense) (now : Instant) (lines : WindowCode) : Sense :=
  { x with
    readingCode := if now.toNat % 4 = 0 then lines else x.readingCode
    restartCode := if x.restartPoint = now then lines else x.restartCode
    readingTaken := false }

/-- One microsecond passes: the air clock counts 1 (R1), and the next instant finds the flags and the link error count as
they are left (R192). -/
def tick (s : State) : State :=
  { s with
    airClock := s.airClock + 1
    sense := s.sense.leaving s.airClock s.planner.lines
    dwells := s.dwells.observe s.sense.observing
    escalation := { s.escalation with drained := false }
    control := { s.control with modeReplies := 0 }
    link := s.link.found }

/-- One of the events due, by a free choice when there are several: either of two events of one instant may be taken
first (DESIGN CHOICE, a free value: log 2). -/
def chooseEvent (s : State) (es : List Instr) : List Instr :=
  match es with
  | [] => []
  | [e] => [e]
  | e :: e' :: rest => (e :: e' :: rest)[Config.choice s.choices % (rest.length + 2)]?.toList

/-- The step of an empty queue. In reset the air clock is held and nothing happens (R2, R12). Out of reset one of the
events due at the present instant is put into the queue, and when none is due a microsecond passes
(DESIGN CHOICE: log 1). -/
def idle (s : State) : State :=
  if s.control.hold.isSome then s
  else
    match eventsDue s with
    | [] => tick s
    | e :: es => { s with pending := chooseEvent s (e :: es), choices := s.choices + 1 }

end Sys2Proof.Machine
end

