-- ==== Sys2Proof/Machine/RequestCommands.lean ====
section
/-! DEFINITION. The host's requests as commands: each stands for its good frame, whose last byte has just been taken
(R186). -/

namespace Sys2Proof.Machine

/-- A good request frame has arrived: dropped without a reply while the restart mark is set (R175), and otherwise taken
into the inbox (R186, R187). The receiver is left alone (DESIGN CHOICE: log 18). -/
def requestArrives (f : Frame) (s : State) : State := if s.control.mark.isSome then s else acceptFrame f s

/-- The frame of a request. -/
def requestFrame (k : RequestKind) (ticket : Byte) (payload : List Byte) : Frame :=
  { kind := k.code, ticket := ticket, payload := payload }

/-- The outcome of a request command (R12, R175, R186). -/
def arrive (k : RequestKind) (ticket : Byte) (payload : List Byte) (s : State) : Host.Outcome State Fault Refusal :=
  outOfReset (requestArrives (requestFrame k ticket payload)) s

/-! ### Link requests (chapter 10) -/

/-- IDENT (R193). -/
def execIdent (ticket : Byte) (s : State) :
    Host.Outcome State Fault Refusal :=
  arrive .ident ticket [] s

/-- STATUS (R194). -/
def execStatus (ticket : Byte) (s : State) :
    Host.Outcome State Fault Refusal :=
  arrive .status ticket [] s

/-- TIME (R193). -/
def execTime (ticket : Byte) (s : State) :
    Host.Outcome State Fault Refusal :=
  arrive .time ticket [] s

/-- SET_REPORTS (R190). -/
def execSetReports (ticket enables : Byte) (s : State) :
    Host.Outcome State Fault Refusal :=
  arrive .setReports ticket [enables] s

/-- CLEAR_FLAGS (R192). -/
def execClearFlags (ticket flags count : Byte) (s : State) :
    Host.Outcome State Fault Refusal :=
  arrive .clearFlags ticket [flags, count] s

/-! ### Mode requests (chapter 9) -/

/-- RESTART (R174). -/
def execRestart (ticket kind : Byte) (s : State) :
    Host.Outcome State Fault Refusal :=
  arrive .restart ticket [kind] s

/-- START (R167). -/
def execStart (ticket mode : Byte) (s : State) :
    Host.Outcome State Fault Refusal :=
  arrive .start ticket [mode] s

/-- STOP (R168). -/
def execStop (ticket : Byte) (s : State) :
    Host.Outcome State Fault Refusal :=
  arrive .stop ticket [] s

/-- SET_MODE (R169). -/
def execSetMode (ticket mode : Byte) (s : State) :
    Host.Outcome State Fault Refusal :=
  arrive .setMode ticket [mode] s

/-- RESUME (R171). -/
def execResume (ticket : Byte) (s : State) :
    Host.Outcome State Fault Refusal :=
  arrive .resume ticket [] s

/-! ### Sense receiver and dwell scheduler requests (chapters 2 and 3) -/

/-- SET_DETECT (R31). -/
def execSetDetect (ticket threshold structured : Byte) (tail mergeGap : Half) (s : State) :
    Host.Outcome State Fault Refusal :=
  arrive .setDetect ticket ([threshold, structured] ++ le16 tail ++ le16 mergeGap) s

/-- SET_SCAN (R36). -/
def execSetScan (ticket count : Byte) (channels : List Byte) (interleave : Byte)
    (operating offChannel margin : Half) (s : State) :
    Host.Outcome State Fault Refusal :=
  arrive .setScan ticket (count :: channels ++ [interleave] ++ le16 operating ++ le16 offChannel ++ le16 margin) s

/-- SET_CHANNEL (R34). -/
def execSetChannel (ticket channel : Byte) (s : State) :
    Host.Outcome State Fault Refusal :=
  arrive .setChannel ticket [channel] s

/-- SURVEY (R52). -/
def execSurvey (ticket channel : Byte) (duration : Half) (s : State) :
    Host.Outcome State Fault Refusal :=
  arrive .survey ticket (channel :: le16 duration) s

/-- READ_CHANNELS (R47). -/
def execReadChannels (ticket : Byte) (s : State) :
    Host.Outcome State Fault Refusal :=
  arrive .readChannels ticket [] s

/-- RANKING (R49). -/
def execRanking (ticket : Byte) (s : State) :
    Host.Outcome State Fault Refusal :=
  arrive .ranking ticket [] s

/-! ### Tracking unit requests (chapter 4) -/

/-- DECLARE_BEACON (R77). -/
def execDeclareBeacon (ticket channel : Byte) (interval airtime : Half) (s : State) :
    Host.Outcome State Fault Refusal :=
  arrive .declareBeacon ticket (channel :: le16 interval ++ le16 airtime) s

/-- FORGET (R78). -/
def execForget (ticket id : Byte) (s : State) :
    Host.Outcome State Fault Refusal :=
  arrive .forget ticket [id] s

/-- READ_TRACKER (R79). -/
def execReadTracker (ticket id : Byte) (s : State) :
    Host.Outcome State Fault Refusal :=
  arrive .readTracker ticket [id] s

/-- SET_TRACKING (R81). -/
def execSetTracking (ticket : Byte) (guardBase beaconGuard : Half) (rate : Byte)
    (guardCap : Half) (lockRun missLimit : Byte) (s : State) :
    Host.Outcome State Fault Refusal :=
  arrive .setTracking ticket (le16 guardBase ++ le16 beaconGuard ++ [rate] ++ le16 guardCap ++ [lockRun, missLimit]) s

/-! ### Window planner requests (chapters 6 and 7) -/

/-- The three bytes of a rule on the line (R114). -/
def ruleLine (r : RuleBytes) : List Byte := [r.predicate, r.invert, r.action]

/-- SET_RULES (R114). -/
def execSetRules (ticket count : Byte) (rules : List RuleBytes) (threshold : Half) (s : State) :
    Host.Outcome State Fault Refusal :=
  arrive .setRules ticket (count :: rules.flatMap ruleLine ++ le16 threshold) s

/-- READ_RULES (R115). -/
def execReadRules (ticket : Byte) (s : State) :
    Host.Outcome State Fault Refusal :=
  arrive .readRules ticket [] s

/-- The margin field of ARM_TEMPLATE, or no field (R119). -/
def marginBytes : Option Half → List Byte
  | none => []
  | some m => le16 m

/-- ARM_TEMPLATE (R119). -/
def execArmTemplate (ticket : Byte) (margin : Option Half) (s : State) :
    Host.Outcome State Fault Refusal :=
  arrive .armTemplate ticket (marginBytes margin) s

/-- DROP_TEMPLATE (R120). -/
def execDropTemplate (ticket : Byte) (s : State) :
    Host.Outcome State Fault Refusal :=
  arrive .dropTemplate ticket [] s

/-- BOOK (R129, Table 10-8). -/
def execBook (ticket lane tag : Byte) (length earliest deadline : Half) (s : State) :
    Host.Outcome State Fault Refusal :=
  arrive .book ticket ([lane, tag] ++ le16 length ++ le16 earliest ++ le16 deadline) s

/-- CANCEL (R137). -/
def execCancel (ticket lane tag : Byte) (s : State) :
    Host.Outcome State Fault Refusal :=
  arrive .cancel ticket [lane, tag] s

/-- SERIES_OPEN (R140). -/
def execSeriesOpen (ticket lane tag : Byte) (period length slide : Half) (s : State) :
    Host.Outcome State Fault Refusal :=
  arrive .seriesOpen ticket ([lane, tag] ++ le16 period ++ le16 length ++ le16 slide) s

/-- SERIES_CLOSE (R144). -/
def execSeriesClose (ticket lane tag : Byte) (s : State) :
    Host.Outcome State Fault Refusal :=
  arrive .seriesClose ticket [lane, tag] s

/-- SET_LANES (R124). -/
def execSetLanes (ticket reserveA reserveB : Byte) (s : State) :
    Host.Outcome State Fault Refusal :=
  arrive .setLanes ticket [reserveA, reserveB] s

/-- READ_BOOKINGS (R149). -/
def execReadBookings (ticket part : Byte) (s : State) :
    Host.Outcome State Fault Refusal :=
  arrive .readBookings ticket [part] s

/-! ### Escalation unit requests (chapter 8) -/

/-- SET_ESCALATION (R163). -/
def execSetEscalation (ticket threshold policy : Byte) (s : State) :
    Host.Outcome State Fault Refusal :=
  arrive .setEscalation ticket [threshold, policy] s

/-- READ_FAULT (R161). -/
def execReadFault (ticket : Byte) (s : State) :
    Host.Outcome State Fault Refusal :=
  arrive .readFault ticket [] s

/-- CLEAR_FAULT (R162). -/
def execClearFault (ticket : Byte) (s : State) :
    Host.Outcome State Fault Refusal :=
  arrive .clearFault ticket [] s

end Sys2Proof.Machine
end

