-- ==== Sys2Proof/Machine/Dispatch.lean ====
section
/-! DEFINITION. The dispatch: one arm per command, each one direct call of its meaning. -/

namespace Sys2Proof.Machine

/-- What a command does to everything but the queue of waiting commands. -/
def exec (i : Instr) (s : State) : Host.Outcome State Fault Refusal :=
  match i with
  | .ident ticket => Sys2Proof.Machine.execIdent ticket s
  | .status ticket => Sys2Proof.Machine.execStatus ticket s
  | .time ticket => Sys2Proof.Machine.execTime ticket s
  | .setReports ticket enables => Sys2Proof.Machine.execSetReports ticket enables s
  | .clearFlags ticket flags count => Sys2Proof.Machine.execClearFlags ticket flags count s
  | .restart ticket kind => Sys2Proof.Machine.execRestart ticket kind s
  | .start ticket mode => Sys2Proof.Machine.execStart ticket mode s
  | .stop ticket => Sys2Proof.Machine.execStop ticket s
  | .setMode ticket mode => Sys2Proof.Machine.execSetMode ticket mode s
  | .resume ticket => Sys2Proof.Machine.execResume ticket s
  | .setDetect ticket threshold structured tail mergeGap => Sys2Proof.Machine.execSetDetect ticket threshold structured tail mergeGap s
  | .setScan ticket count channels interleave operating offChannel margin => Sys2Proof.Machine.execSetScan ticket count channels interleave operating offChannel margin s
  | .setChannel ticket channel => Sys2Proof.Machine.execSetChannel ticket channel s
  | .survey ticket channel duration => Sys2Proof.Machine.execSurvey ticket channel duration s
  | .readChannels ticket => Sys2Proof.Machine.execReadChannels ticket s
  | .ranking ticket => Sys2Proof.Machine.execRanking ticket s
  | .declareBeacon ticket channel interval airtime => Sys2Proof.Machine.execDeclareBeacon ticket channel interval airtime s
  | .forget ticket id => Sys2Proof.Machine.execForget ticket id s
  | .readTracker ticket id => Sys2Proof.Machine.execReadTracker ticket id s
  | .setTracking ticket guardBase beaconGuard rate guardCap lockRun missLimit => Sys2Proof.Machine.execSetTracking ticket guardBase beaconGuard rate guardCap lockRun missLimit s
  | .setRules ticket count rules threshold => Sys2Proof.Machine.execSetRules ticket count rules threshold s
  | .readRules ticket => Sys2Proof.Machine.execReadRules ticket s
  | .armTemplate ticket margin => Sys2Proof.Machine.execArmTemplate ticket margin s
  | .dropTemplate ticket => Sys2Proof.Machine.execDropTemplate ticket s
  | .book ticket lane tag length earliest deadline => Sys2Proof.Machine.execBook ticket lane tag length earliest deadline s
  | .cancel ticket lane tag => Sys2Proof.Machine.execCancel ticket lane tag s
  | .seriesOpen ticket lane tag period length slide => Sys2Proof.Machine.execSeriesOpen ticket lane tag period length slide s
  | .seriesClose ticket lane tag => Sys2Proof.Machine.execSeriesClose ticket lane tag s
  | .setLanes ticket reserveA reserveB => Sys2Proof.Machine.execSetLanes ticket reserveA reserveB s
  | .readBookings ticket part => Sys2Proof.Machine.execReadBookings ticket part s
  | .setEscalation ticket threshold policy => Sys2Proof.Machine.execSetEscalation ticket threshold policy s
  | .readFault ticket => Sys2Proof.Machine.execReadFault ticket s
  | .clearFault ticket => Sys2Proof.Machine.execClearFault ticket s
  | .characterReceived data stopHigh => Sys2Proof.Machine.execCharacterReceived data stopHigh s
  | .frameComplete => Sys2Proof.Machine.execFrameComplete s
  | .frameTimeout => Sys2Proof.Machine.execFrameTimeout s
  | .rxdLowTimeout => Sys2Proof.Machine.execRxdLowTimeout s
  | .rxdBreak => Sys2Proof.Machine.execRxdBreak s
  | .frameTransmitted => Sys2Proof.Machine.execFrameTransmitted s
  | .resetNLow => Sys2Proof.Machine.execResetNLow s
  | .powerUp => Sys2Proof.Machine.execPowerUp s
  | .leaveReset rxdHigh txonHigh => Sys2Proof.Machine.execLeaveReset rxdHigh txonHigh s
  | .txonRise => Sys2Proof.Machine.execTxonRise s
  | .txonFall => Sys2Proof.Machine.execTxonFall s
  | .blankingEnd => Sys2Proof.Machine.execBlankingEnd s
  | .settlingEnd => Sys2Proof.Machine.execSettlingEnd s
  | .energyReading level preamble => Sys2Proof.Machine.execEnergyReading level preamble s
  | .longBurstCut => Sys2Proof.Machine.execLongBurstCut s
  | .gapEndRelease => Sys2Proof.Machine.execGapEndRelease s
  | .spanLimitRelease => Sys2Proof.Machine.execSpanLimitRelease s
  | .scoreDrain => Sys2Proof.Machine.execScoreDrain s
  | .dwellEnd => Sys2Proof.Machine.execDwellEnd s
  | .observedSinceAdvance => Sys2Proof.Machine.execObservedSinceAdvance s
  | .riseTest id => Sys2Proof.Machine.execRiseTest id s
  | .candidateExpiry id => Sys2Proof.Machine.execCandidateExpiry id s
  | .trackerAgeLimit id => Sys2Proof.Machine.execTrackerAgeLimit id s
  | .dormantAgeLimit id => Sys2Proof.Machine.execDormantAgeLimit id s
  | .guardStep id => Sys2Proof.Machine.execGuardStep id s
  | .windowEdge => Sys2Proof.Machine.execWindowEdge s
  | .templateAnchorAdvance => Sys2Proof.Machine.execTemplateAnchorAdvance s
  | .commitPoint => Sys2Proof.Machine.execCommitPoint s
  | .windowStart => Sys2Proof.Machine.execWindowStart s
  | .windowEnd => Sys2Proof.Machine.execWindowEnd s
  | .seriesRetry => Sys2Proof.Machine.execSeriesRetry s
  | .rxdReturnsHigh => Sys2Proof.Machine.execRxdReturnsHigh s

end Sys2Proof.Machine
end

