-- ==== Sys2Proof/Machine/Step.lean ====
section
/-! DEFINITION. One step: the command at the front of the queue, or the part's own idle step. -/

namespace Sys2Proof.Machine

/-- The command at the front of the queue is taken with the rest of the queue left waiting; on an empty queue the part
idles (DESIGN CHOICE: log 1). -/
def step (s : State) : Host.Outcome State Fault Refusal :=
  match s.pending with
  | c :: cs => exec c (s.withPending cs)
  | [] => .next (idle s)

/-- The state with the command that a word spells put at the front of the queue, and the state itself when the word
spells none. -/
def State.withFetchWord (s : State) (nbits w : Nat) : State :=
  match decodeTableWord nbits w with
  | some c => s.withPending (c :: s.pending)
  | none => s

end Sys2Proof.Machine
end

