-- ==== Sys2Proof/Safety.lean ====
section
/-! DEFINITION. The terms in which claims are stated: what a sound state is, block by block; when the part takes a request
at once; and what the blocks can change by themselves. -/

namespace Sys2Proof.Machine

/-- The queues of the link controller within their sizes, and its count, as it stands and as the instant found it, within
its byte (Table 10-1, R192). -/
def LinkBounded (s : State) : Prop :=
  s.link.inbox.length ≤ 4 ∧ s.link.replies.length ≤ 4 ∧ s.link.reports.length ≤ 16 ∧ s.link.errors ≤ 255 ∧
    s.link.errorsBefore ≤ 255

/-- An entry's counters within Table 4-1, a span of at least one channel for an OVEN entry in use (R58), and the period
and on-duration of an OVEN entry that has them within R59. -/
def Tracker.sound (t : Tracker) : Prop :=
  t.run ≤ 15 ∧ t.misses ≤ 31 ∧ t.slips ≤ 15 ∧ t.hits ≤ 65535 ∧
    (t.kind = .oven → t.state ≠ .free → t.span ≠ []) ∧
    (t.kind = .oven → t.state = .acquiring ∨ t.state = .locked ∨ t.state = .dormant →
      240000 ≤ t.period ∧ t.period ≤ 336000 ∧ 2000 ≤ t.onDuration ∧ t.onDuration ≤ 14000)

/-- The tracker table: 12 sound entries, at most 4 of them BEACON, and a lock run within its range (R58, R59, Tables 4-1
and 4-4). -/
def TrackingSound (s : State) : Prop :=
  s.tracking.entries.length = 12 ∧ beaconCount s ≤ 4 ∧ s.tracking.settings.lockRun ≤ 15 ∧
    ∀ t ∈ s.tracking.entries, t.sound

/-- What each mode allows in the reservation queue and the series table (Table 9-1, R109, R145, R148). -/
def BookingsByMode (s : State) : Prop :=
  (s.control.mode.steers = true → ∀ x ∈ s.planner.series, x.state = .running) ∧
  (s.control.mode.steers = false → s.planner.queue = [] ∧ ∀ x ∈ s.planner.series, x.state = .suspended ∧ x.retry = none) ∧
  (s.control.mode = .standby → s.planner.series = []) ∧
  (s.control.mode = .fallback → s.planner.template.isSome = true)

/-- The lane reserves within their range, and no more entries beyond them than the shared capacity (R124, R125). -/
def QueueAdmitted (s : State) : Prop :=
  s.planner.reserveA ≤ 6 ∧ s.planner.reserveB ≤ 6 ∧ s.planner.beyondReserves ≤ s.planner.sharedCapacity

/-- The code on the lines in the modes that do not steer (R116, Table 9-1). -/
def LinesByMode (s : State) : Prop :=
  (s.control.mode = .standby ∨ s.control.mode = .observe → s.planner.lines = .openAir) ∧
  (s.control.mode = .hold → s.planner.lines = .shut)

/-- The score, threshold and further count of the escalation unit within Table 8-1 and Table 8-4. -/
def EscalationBounded (s : State) : Prop :=
  s.escalation.score ≤ 15 ∧ 1 ≤ s.escalation.threshold ∧ s.escalation.threshold ≤ 15 ∧
    ∀ f, s.escalation.fault = some f → f.further ≤ 255

/-- The channel records: 13 of them, loads within 0 to 1,000 and visits within 0 to 65,535 (Table 3-4). -/
def RecordsSound (s : State) : Prop :=
  s.dwells.records.length = 13 ∧
    ∀ r ∈ s.dwells.records, r.load ≤ 1000 ∧ r.unstructuredLoad ≤ 1000 ∧ r.visits ≤ 65535

/-- The part takes a request at once and replies to it: it is out of reset, no restart waits, no request waits and the
reply queue can take the reply (R12, R175, R187). -/
def Ready (s : State) : Prop :=
  s.control.hold = none ∧ s.control.mark = none ∧ s.link.inbox = [] ∧ s.link.replies.length ≤ 2

/-- The part is out of reset. -/
def Running (s : State) : Prop := s.control.hold = none

/-- A request's reply placed in the reply queue, and the transmitter offered it (R188, R189). -/
def answered (kind ticket : Byte) (payload : List Byte) (s : State) : State :=
  pump (placeReply { kind := kind, ticket := ticket, payload := payload } s)

/-! ### A warm restart, field by field -/

/-- A tracker entry before and after a warm restart (R86, Table 4-5). -/
def Tracker.warmed (t u : Tracker) : Prop :=
  (t.state = .free ∨ t.state = .candidate ∨ (t.state = .acquiring ∧ t.kind = .oven) → u = Tracker.free) ∧
  (t.state = .acquiring ∧ t.kind = .beacon →
    u = { t with anchored := false, anchor := 0, run := 0, misses := 0, slips := 0, lastHit := none
                 pendingRise := none, nextRise := 0 }) ∧
  (t.state = .locked ∨ t.state = .dormant →
    u = { t with state := .dormant, run := 0, misses := 0, slips := 0, pendingRise := none })

/-- What a warm restart keeps and what it sets, but for the transmitter, the report queue and the mark of a break that
has been taken (R2, R11, R33, R57, R86, R113, R122, R124, R148, R164, R166, R195). -/
def WarmRestarted (s t : State) : Prop :=
  t.airClock = s.airClock ∧ t.pending = s.pending ∧ t.choices = s.choices ∧
  t.control = { mode := .standby, mark := none, hold := none, modeReplies := 0 } ∧
  t.sense = { s.sense with
    tuned := none, tuning := .idle, observedSince := none
    detector := .quiet { count := 0, first := 0, code := .openAir }, fresh := true, held := none } ∧
  t.dwells = { s.dwells with
    pointer := 0, group := 0, forceOperating := false, current := none
    survey := { phase := .none, channel := 0, duration := 0, trackers := [] }
    advice := { armed := true, passes := 0 } } ∧
  t.tracking.settings = s.tracking.settings ∧ t.tracking.entries.length = s.tracking.entries.length ∧
  (∀ id < s.tracking.entries.length, (s.tracker id).warmed (t.tracker id)) ∧
  t.planner = { s.planner with lines := .openAir, queue := [], series := [] } ∧
  t.escalation = { s.escalation with score := 0 } ∧
  t.link.receiver = .hunting ∧ t.link.waitHigh = s.link.waitHigh ∧ t.link.inbox = [] ∧ t.link.replies = [] ∧
  t.link.lostPending = false ∧ t.link.enables = s.link.enables ∧ t.link.flags = s.link.flags ∧
  t.link.errors = s.link.errors ∧ t.link.flagsBefore = s.link.flagsBefore ∧ t.link.errorsBefore = s.link.errorsBefore

/-! ### Requests as frames (R182, R196, Table 10-3) -/

/-- The frame of a command that is a request; none for an event. -/
def requestOf (c : Instr) : Option Frame :=
  match c with
  | .ident t => some { kind := 0x01, ticket := t, payload := [] }
  | .status t => some { kind := 0x02, ticket := t, payload := [] }
  | .time t => some { kind := 0x03, ticket := t, payload := [] }
  | .setReports t e => some { kind := 0x04, ticket := t, payload := [e] }
  | .clearFlags t f c => some { kind := 0x05, ticket := t, payload := [f, c] }
  | .restart t k => some { kind := 0x06, ticket := t, payload := [k] }
  | .start t m => some { kind := 0x08, ticket := t, payload := [m] }
  | .stop t => some { kind := 0x09, ticket := t, payload := [] }
  | .setMode t m => some { kind := 0x0A, ticket := t, payload := [m] }
  | .resume t => some { kind := 0x0B, ticket := t, payload := [] }
  | .setDetect t th st tail gap => some { kind := 0x10, ticket := t, payload := th :: st :: le16 tail ++ le16 gap }
  | .setScan t count cs i o f m =>
    some { kind := 0x11, ticket := t, payload := count :: cs ++ i :: le16 o ++ le16 f ++ le16 m }
  | .setChannel t c => some { kind := 0x12, ticket := t, payload := [c] }
  | .survey t c d => some { kind := 0x13, ticket := t, payload := c :: le16 d }
  | .readChannels t => some { kind := 0x14, ticket := t, payload := [] }
  | .ranking t => some { kind := 0x15, ticket := t, payload := [] }
  | .declareBeacon t c i a => some { kind := 0x18, ticket := t, payload := c :: le16 i ++ le16 a }
  | .forget t id => some { kind := 0x19, ticket := t, payload := [id] }
  | .readTracker t id => some { kind := 0x1A, ticket := t, payload := [id] }
  | .setTracking t g b r c l m =>
    some { kind := 0x1B, ticket := t, payload := le16 g ++ le16 b ++ r :: le16 c ++ [l, m] }
  | .setRules t count rs th =>
    some { kind := 0x20, ticket := t,
           payload := count :: rs.flatMap (fun r => [r.predicate, r.invert, r.action]) ++ le16 th }
  | .readRules t => some { kind := 0x21, ticket := t, payload := [] }
  | .armTemplate t none => some { kind := 0x22, ticket := t, payload := [] }
  | .armTemplate t (some m) => some { kind := 0x22, ticket := t, payload := le16 m }
  | .dropTemplate t => some { kind := 0x23, ticket := t, payload := [] }
  | .book t l g len e d => some { kind := 0x28, ticket := t, payload := l :: g :: le16 len ++ le16 e ++ le16 d }
  | .cancel t l g => some { kind := 0x29, ticket := t, payload := [l, g] }
  | .seriesOpen t l g p len j => some { kind := 0x2A, ticket := t, payload := l :: g :: le16 p ++ le16 len ++ le16 j }
  | .seriesClose t l g => some { kind := 0x2B, ticket := t, payload := [l, g] }
  | .setLanes t a b => some { kind := 0x2C, ticket := t, payload := [a, b] }
  | .readBookings t p => some { kind := 0x2D, ticket := t, payload := [p] }
  | .setEscalation t th p => some { kind := 0x30, ticket := t, payload := [th, p] }
  | .readFault t => some { kind := 0x31, ticket := t, payload := [] }
  | .clearFault t => some { kind := 0x32, ticket := t, payload := [] }
  | .characterReceived _ _ | .frameComplete | .frameTimeout | .rxdLowTimeout | .rxdBreak | .frameTransmitted
  | .resetNLow | .powerUp | .leaveReset _ _ | .txonRise | .txonFall | .blankingEnd | .settlingEnd
  | .energyReading _ _ | .longBurstCut | .gapEndRelease | .spanLimitRelease | .scoreDrain | .dwellEnd
  | .observedSinceAdvance | .riseTest _ | .candidateExpiry _ | .trackerAgeLimit _ | .dormantAgeLimit _ | .guardStep _
  | .windowEdge | .templateAnchorAdvance | .commitPoint | .windowStart | .windowEnd | .seriesRetry
  | .rxdReturnsHigh => none

/-- The payload lengths that Table 10-3 allows a kind with a payload of these bytes. -/
def lengthAllowed (k : RequestKind) (payload : List Byte) : Prop :=
  match k with
  | .ident | .status | .time | .stop | .resume | .readChannels | .ranking | .readRules | .dropTemplate | .readFault
  | .clearFault => payload.length = 0
  | .setReports | .restart | .start | .setMode | .setChannel | .forget | .readTracker | .readBookings =>
    payload.length = 1
  | .clearFlags | .cancel | .seriesClose | .setLanes | .setEscalation => payload.length = 2
  | .survey => payload.length = 3
  | .declareBeacon => payload.length = 5
  | .setDetect => payload.length = 6
  | .book | .seriesOpen => payload.length = 8
  | .setTracking => payload.length = 9
  | .armTemplate => payload.length = 0 ∨ payload.length = 2
  | .setScan => ∃ count, payload.head? = some count ∧ payload.length = 8 + count.toNat
  | .setRules => ∃ count, payload.head? = some count ∧ payload.length = 3 + 3 * count.toNat

/-! ### Frames: what each block can change by itself -/

/-- A link controller that has only been handed reports and asked to set sticky flags. -/
structure Link.Handed (l l' : Link) : Prop where
  receiver : l'.receiver = l.receiver
  waitHigh : l'.waitHigh = l.waitHigh
  rxdLow : l'.rxdLow = l.rxdLow
  inbox : l'.inbox = l.inbox
  replies : l'.replies = l.replies
  sending : l'.sending = l.sending
  enables : l'.enables = l.enables
  errors : l'.errors = l.errors
  flagsBefore : l'.flagsBefore = l.flagsBefore
  errorsBefore : l'.errorsBefore = l.errorsBefore
  grows : ∃ fs, l'.reports = l.reports ++ fs
  bounded : l.reports.length ≤ 16 → l'.reports.length ≤ 16
  slipOvf : l.flags.slipOvf = true → l'.flags.slipOvf = true
  escalated : l.flags.escalated = true → l'.flags.escalated = true
  reportLost : l.flags.reportLost = true → l'.flags.reportLost = true

/-- A frame and the same frame, or a reply that carries a mode and the same with another mode (R173). -/
def Frame.Reworded (f g : Frame) : Prop := g = f ∨ (f.repliesMode = true ∧ ∃ m : Mode, g = f.withMode m)

/-- A link controller that has been handed reports and asked to set sticky flags, and whose replies to mode requests may
give another mode (R173). -/
structure Link.Aired (l l' : Link) : Prop where
  receiver : l'.receiver = l.receiver
  waitHigh : l'.waitHigh = l.waitHigh
  rxdLow : l'.rxdLow = l.rxdLow
  inbox : l'.inbox = l.inbox
  replies : List.Forall₂ Frame.Reworded l.replies l'.replies
  busy : l.sending = none → l'.sending = none
  sending : ∀ x, l.sending = some x → ∃ f, x.frame.Reworded f ∧ l'.sending = some { x with frame := f }
  enables : l'.enables = l.enables
  errors : l'.errors = l.errors
  flagsBefore : l'.flagsBefore = l.flagsBefore
  errorsBefore : l'.errorsBefore = l.errorsBefore
  grows : ∃ fs, l'.reports = l.reports ++ fs
  bounded : l.reports.length ≤ 16 → l'.reports.length ≤ 16
  slipOvf : l.flags.slipOvf = true → l'.flags.slipOvf = true
  escalated : l.flags.escalated = true → l'.flags.escalated = true
  reportLost : l.flags.reportLost = true → l'.flags.reportLost = true

/-- A state that differs only in the reservation queue, the series table and the reports handed over. -/
structure PlannerStep (s t : State) : Prop where
  airClock : t.airClock = s.airClock
  sense : t.sense = s.sense
  dwells : t.dwells = s.dwells
  tracking : t.tracking = s.tracking
  escalation : t.escalation = s.escalation
  control : t.control = s.control
  choices : t.choices = s.choices
  pending : t.pending = s.pending
  link : s.link.Handed t.link
  rules : t.planner.rules = s.planner.rules
  loadThreshold : t.planner.loadThreshold = s.planner.loadThreshold
  template : t.planner.template = s.planner.template
  lines : t.planner.lines = s.planner.lines
  reserveA : t.planner.reserveA = s.planner.reserveA
  reserveB : t.planner.reserveB = s.planner.reserveB

/-- A state that differs only in the tracker entries, the reservation queue, the series table, the reports handed over and
the sticky flags set. -/
structure TrackingStep (s t : State) : Prop where
  airClock : t.airClock = s.airClock
  sense : t.sense = s.sense
  dwells : t.dwells = s.dwells
  settings : t.tracking.settings = s.tracking.settings
  size : t.tracking.entries.length = s.tracking.entries.length
  escalation : t.escalation = s.escalation
  control : t.control = s.control
  choices : t.choices = s.choices
  pending : t.pending = s.pending
  link : s.link.Handed t.link
  rules : t.planner.rules = s.planner.rules
  loadThreshold : t.planner.loadThreshold = s.planner.loadThreshold
  template : t.planner.template = s.planner.template
  lines : t.planner.lines = s.planner.lines
  reserveA : t.planner.reserveA = s.planner.reserveA
  reserveB : t.planner.reserveB = s.planner.reserveB

/-- A state that an event of the air can lead to. -/
structure AirStep (s t : State) : Prop where
  airClock : t.airClock = s.airClock
  operating : t.dwells.operating = s.dwells.operating
  recordCount : t.dwells.records.length = s.dwells.records.length
  settings : t.tracking.settings = s.tracking.settings
  size : t.tracking.entries.length = s.tracking.entries.length
  threshold : t.escalation.threshold = s.escalation.threshold
  policy : t.escalation.policy = s.escalation.policy
  drained : t.escalation.drained = s.escalation.drained
  mark : t.control.mark = s.control.mark
  reset : t.control.hold = s.control.hold
  choices : t.choices = s.choices
  pending : t.pending = s.pending
  link : s.link.Aired t.link
  rules : t.planner.rules = s.planner.rules
  loadThreshold : t.planner.loadThreshold = s.planner.loadThreshold
  template : t.planner.template = s.planner.template
  reserveA : t.planner.reserveA = s.planner.reserveA
  reserveB : t.planner.reserveB = s.planner.reserveB

/-- A dwell without what has been counted in it. -/
def Dwell.uncounted (d : Dwell) : Dwell :=
  { d with busy := 0, unstructuredBusy := 0, structuredCount := 0, unstructuredCount := 0 }

/-- A state that the release and delivery of records, and the settlement of pending rises, can lead to: of the sense
receiver only the held record changes, and of the dwell scheduler only what is counted in the current dwell and the
tracker list of the survey (R28, R45, R54, R73). -/
structure DeliveryStep (s t : State) : Prop where
  air : AirStep s t
  sense : t.sense = { s.sense with held := t.sense.held }
  dwells : t.dwells = { s.dwells with
    current := t.dwells.current, survey := { s.dwells.survey with trackers := t.dwells.survey.trackers } }
  current : t.dwells.current.map Dwell.uncounted = s.dwells.current.map Dwell.uncounted

end Sys2Proof.Machine
end

