-- ==== Sys2Proof/Certificates/Slice0/Obligations.lean ====
section
/-! DEFINITION. The statements for the provers. Each docstring names the rules of spec/ that it follows, or the log entry of
a choice that is the model's own. -/

open Sys2Proof Sys2Proof.Machine

/-! ### The step -/

/-- The step takes the command at the front of the queue and leaves the rest waiting (00_scope; log 1). -/
def Obligations.StepTakesFrontCommand : Prop :=
  ∀ (c : Instr) (cs : List Instr) (s : State), s.pending = c :: cs → step s = exec c { s with pending := cs }

/-- The step of an empty queue. In reset nothing happens (R2, R12). Out of reset, one of the events due is queued, and
when none is due the air clock counts one microsecond (R1), the current dwell's observed time growing while the receiver
observes (R45), and the codes noted for a reading and a restart point becoming those on the lines as their instant is left
(R27; log 28); the flags and the link error count are those the next instant finds (R192; log 38). That the idle step is
one microsecond, and the free choice among events of one instant, are the model's choices (log 1 and 2), and so are the
marks of what has been taken at an instant (log 16 and 33). -/
def Obligations.IdleStepQueuesDueEventOrCounts : Prop :=
  ∀ s : State, s.pending = [] →
    (s.control.hold.isSome = true → step s = .next s) ∧
    (s.control.hold = none → eventsDue s ≠ [] →
      ∃ e ∈ eventsDue s, step s = .next { s with pending := [e], choices := s.choices + 1 }) ∧
    (s.control.hold = none → eventsDue s = [] →
      step s = .next
        { s with
          airClock := s.airClock + 1
          sense := { s.sense with
            readingTaken := false
            readingCode := if s.airClock.toNat % 4 = 0 then s.planner.lines else s.sense.readingCode
            restartCode := if s.sense.restartPoint = s.airClock then s.planner.lines else s.sense.restartCode }
          dwells := { s.dwells with
            current := s.dwells.current.map (fun d =>
              if s.sense.tuning = .settled ∧ s.sense.blanking = .inactive then { d with observed := d.observed + 1 }
              else d) }
          escalation := { s.escalation with drained := false }
          control := { s.control with modeReplies := 0 }
          link := { s.link with flagsBefore := s.link.flags, errorsBefore := s.link.errors } })

/-- Every command ends in a next state, whatever the state: no meaning faults or refuses. It leaves the queue of commands
and the count of free choices as they are, and the air clock too (R1), unless a cold start makes it 0 (R2): by RESET_N or
power-up, or by the end of a RESTART COLD reply or a break. -/
def Obligations.EveryCommandAnswersAndKeepsTheClock : Prop :=
  ∀ (c : Instr) (s : State), ∃ t, exec c s = .next t ∧ t.pending = s.pending ∧ t.choices = s.choices ∧
    (t.airClock = s.airClock ∨
      (t.airClock = 0 ∧ (c = .resetNLow ∨ c = .powerUp ∨ c = .frameTransmitted ∨ c = .rxdBreak)))

/-! ### Reset and restarts (chapters 1 and 9) -/

/-- In reset the part observes nothing: every command but RESET_N low, power-up and leaving reset leaves it unchanged
(R12). -/
def Obligations.NothingObservedInReset : Prop :=
  ∀ (c : Instr) (s : State), s.control.hold.isSome = true → c ≠ .resetNLow → c ≠ .powerUp →
    (∀ rxd txon, c ≠ .leaveReset rxd txon) → exec c s = .next s

/-- RESET_N low and power-up enter a cold start, held in reset: every block takes its cold-start values, spelled out here
field by field (R2, R11, R33, R57, R86, R113, R122, R124, R148, R164, R177, R195), and the lines show OPEN, WIN1 low and
WIN0 high (Table 1-7). The fields `restartPoint`, the codes of the sense receiver, `group`, `forceOperating` and the
survey's channel, duration and list take values of the model's choice (log 5 and 6), and so do the cause kept when both
hold the part in reset (log 14), the counts of what has been taken at an instant (log 16 and 33), and the flags and count
as the instant found them (log 38). -/
def Obligations.ColdStartValues : Prop :=
  ∀ s : State, ∃ t : State, exec .powerUp s = .next t ∧
    exec .resetNLow s = .next { t with control := { t.control with
      hold := some (if s.control.hold = some .powerUp then .powerUp else .resetPin) } } ∧
    t.control = { mode := .standby, mark := none, hold := some .powerUp, modeReplies := 0 } ∧
    t.airClock = 0 ∧ t.pending = s.pending ∧ t.choices = s.choices ∧
    t.sense =
      { tuned := none, tuning := .idle, blanking := .inactive, observedSince := none
        detector := .quiet { count := 0, first := 0, code := .openAir }, fresh := true, restartPoint := 0
        restartCode := .openAir, readingCode := .openAir, readingTaken := false, held := none
        settings := { threshold := -72, structuredOn := true, tail := 30, mergeGap := 500 }, pendingSettings := none } ∧
    t.dwells =
      { operating := none
        plan := { channels := [], interleave := .alternate, operatingLength := 200000, offChannelLength := 40000
                  margin := 150 }
        pendingPlan := none, pointer := 0, group := 0, forceOperating := false, current := none
        survey := { phase := .none, channel := 0, duration := 0, trackers := [] }
        records := List.replicate 13
          { visited := false, load := 0, unstructuredLoad := 0, lastVisitEnd := 0, visits := 0 }
        advice := { armed := true, passes := 0 } } ∧
    t.tracking.settings =
      { guardBase := 300, beaconGuard := 100, wideningRate := 20, guardCap := 1500, lockRun := 6, missLimit := 8 } ∧
    t.tracking.entries.length = 12 ∧ (∀ x ∈ t.tracking.entries, x.state = .free) ∧
    t.planner.rules =
      [{ predicate := .ovenLocked, invert := false, action := .shut },
       { predicate := .ovenAcq, invert := false, action := .shut },
       { predicate := .always, invert := false, action := .openAir }]
        ++ List.replicate 5 { predicate := .always, invert := true, action := .openAir } ∧
    t.planner.loadThreshold = 600 ∧ t.planner.template = none ∧ t.planner.lines = .openAir ∧
    t.winLines = (false, true) ∧ t.txd = true ∧ t.planner.queue = [] ∧
    t.planner.series = [] ∧ t.planner.reserveA = 2 ∧ t.planner.reserveB = 2 ∧
    t.escalation = { score := 0, threshold := 4, policy := .report, fault := none, drained := false } ∧
    t.link =
      { receiver := .hunting, waitHigh := false, rxdLow := none, inbox := [], replies := [], reports := []
        sending := none, enables := 0xF9#8, lostPending := false
        flags := { slipOvf := false, escalated := false, reportLost := false }, errors := 0
        flagsBefore := { slipOvf := false, escalated := false, reportLost := false }, errorsBefore := 0 }

/-- The part leaves reset in STANDBY with the MODE report of its cold start as its first frame, 13 bytes and so 130 µs on
the line (R177, R179, R181); with RXD low then, the receiver waits for high and the low level is measured from now (R180,
R195); with TXON high then, blanking is active (R33). Out of reset the command has no effect. -/
def Obligations.LeavingReset : Prop :=
  ∀ (rxd txon : Bool) (s : State),
    (s.control.hold = none → exec (.leaveReset rxd txon) s = .next s) ∧
    (∀ why, s.control.hold = some why →
      s.link.sending = none → s.link.replies = [] → s.link.reports = [] → s.link.lostPending = false →
      s.link.enables.getLsbD 0 = true →
      exec (.leaveReset rxd txon) s = .next
        { s with
          control := { s.control with hold := none }
          sense := { s.sense with blanking := if txon then .active none else s.sense.blanking }
          link := { s.link with
            waitHigh := !rxd || s.link.waitHigh
            rxdLow := if rxd then s.link.rxdLow else some { fall := s.airClock, restarted := false }
            sending := some
              { frame := { kind := 0xC0, ticket := 0
                           payload := [0, 0, 0, if why = .powerUp then 5 else 4] ++ le32 s.airClock }
                endsAt := s.airClock + 130 } } })

/-- A break of 50,000 µs brings a restart at once, whatever the mode: a warm restart, unless the restart mark is COLD
(R176, R178). The
blocks take their warm values (R33, R57, R86, R113, R122, R148, R164, R195), the air clock runs on (R2), and the MODE
report of the restart goes out first (R179, R195). Of `WarmRestarted`, the values of `group`, `forceOperating` and the
survey's channel, duration and list are the model's choice and not R57's (log 6). With the restart mark COLD it brings a
cold start of cause RESTART_COLD, the air clock 0 and every block at its cold-start values (R176, R180, R2, R195): blanking
follows TXON, a tail in progress being dropped (log 21), and the low level runs on, its fall moved by the old air clock and
its restart taken (log 20); among those values are the model's own (log 5 and 6). -/
def Obligations.BreakRestartsWarm : Prop :=
  ∀ (s : State) (w : LowLevel), Running s → s.link.rxdLow = some w → w.restarted = false →
    50000 ≤ (s.airClock - w.fall).toNat →
    (s.control.mark ≠ some .cold →
      ∃ t, exec .rxdBreak s = .next t ∧ WarmRestarted s t ∧
        t.link.rxdLow = some { w with restarted := true } ∧
        (s.link.enables.getLsbD 0 = true →
          t.link.sending = some
            { frame := { kind := 0xC0, ticket := 0, payload := [0, s.control.mode.code, 0, 3] ++ le32 s.airClock }
              endsAt := s.airClock + 130 } ∧ t.link.reports = []) ∧
        (s.link.enables.getLsbD 0 = false → t.link.sending = none ∧ t.link.reports = [])) ∧
    (s.control.mark = some .cold →
      exec .rxdBreak s = .next
        { State.cold with
          choices := s.choices, pending := s.pending
          sense := { Sense.cold with
            blanking := if s.sense.blanking = .active none then .active none else .inactive }
          link := { Link.cold with
            waitHigh := s.link.waitHigh
            rxdLow := some { fall := w.fall - s.airClock, restarted := true }
            sending := some
              { frame := { kind := 0xC0, ticket := 0, payload := [0, s.control.mode.code, 0, 2, 0, 0, 0, 0] }
                endsAt := 130 } } })

/-- The end of a RESTART reply brings the restart that the mark records (R174): warm, with the warm values and cause
RESTART_WARM, or without a report when MODE is disabled; or cold, with the air clock 0 (R2), every block at its
cold-start values, and cause RESTART_COLD (R178, R179). At a cold restart blanking follows TXON, a tail in progress being
dropped (R33; log 21), and the measurement of a low level runs on, its fall moved by the old air clock (R195; log 20).
Among the restart values are those of the model's choice (log 5 and 6). -/
def Obligations.RestartWhenItsReplyHasLeft : Prop :=
  ∀ (s : State) (x : Sending) (fields : List Byte), Running s → s.link.sending = some x → x.frame.kind = 0x86#8 →
    x.frame.payload = 0 :: fields → Instant.atOrBefore x.endsAt s.airClock = true →
    (s.control.mark = some .warm →
      ∃ t, exec .frameTransmitted s = .next t ∧ WarmRestarted s t ∧ t.link.rxdLow = s.link.rxdLow ∧
        t.link.reports = [] ∧
        (s.link.enables.getLsbD 0 = true → t.link.sending = some
          { frame := { kind := 0xC0, ticket := 0, payload := [0, s.control.mode.code, 0, 1] ++ le32 s.airClock }
            endsAt := s.airClock + 130 }) ∧
        (s.link.enables.getLsbD 0 = false → t.link.sending = none)) ∧
    (s.control.mark = some .cold →
      exec .frameTransmitted s = .next
        { State.cold with
          choices := s.choices, pending := s.pending
          sense := { Sense.cold with
            blanking := if s.sense.blanking = .active none then .active none else .inactive }
          link := { Link.cold with
            waitHigh := s.link.waitHigh
            rxdLow := s.link.rxdLow.map (fun w => { w with fall := w.fall - s.airClock })
            sending := some
              { frame := { kind := 0xC0, ticket := 0, payload := [0, s.control.mode.code, 0, 2, 0, 0, 0, 0] }
                endsAt := 130 } } })

/-! ### Requests and the link controller (chapter 10) -/

/-- A request that arrives while the reply queue holds 3 frames or more waits in the inbox (R187). With 4 frames in
the inbox it is answered FULL when the reply queue has a place, and otherwise dropped with one link error (R186). A
placed reply joins the reply queue. With the transmitter busy it waits there; with the transmitter FREE the oldest
reply begins, leaves its queue, and occupies TXD for 10 µs a byte, its payload being framed by five bytes (R181, R182,
R189). Reports wait while a reply waits. -/
def Obligations.RequestsWaitAndRepliesArePlaced : Prop :=
  (∀ (c : Instr) (f : Frame) (s : State), requestOf c = some f → Running s → s.control.mark = none →
      3 ≤ s.link.replies.length →
      (s.link.inbox.length < 4 → exec c s = .next { s with link := { s.link with inbox := s.link.inbox ++ [f] } }) ∧
      (4 ≤ s.link.inbox.length → s.link.replies.length = 3 →
        exec c s = .next (answered (f.kind + 0x80) f.ticket [0x1D] s)) ∧
      (4 ≤ s.link.inbox.length → 4 ≤ s.link.replies.length →
        exec c s = .next (pump { s with link := { s.link with errors := min 255 (s.link.errors + 1) } }))) ∧
  (∀ (kind ticket : Byte) (payload : List Byte) (s : State),
      (s.link.sending.isSome = true →
        answered kind ticket payload s = { s with link := { s.link with
          replies := s.link.replies ++ [{ kind := kind, ticket := ticket, payload := payload }] } }) ∧
      (s.link.sending = none → ∃ f rest,
        f :: rest = s.link.replies ++ [{ kind := kind, ticket := ticket, payload := payload }] ∧
        answered kind ticket payload s = { s with link := { s.link with
          replies := rest
          sending := some { frame := f, endsAt := s.airClock + BitVec.ofNat 32 (10 * (f.payload.length + 5)) } } }))

/-- A payload length that Table 10-3 does not allow its kind is answered BAD_LENGTH and reaches no block, and so is a
count byte that does not agree with the length (R187). The statement covers every defined kind, and a frame of it that
completes on the line. -/
def Obligations.WrongLengthReachesNoBlock : Prop :=
  ∀ (k : RequestKind) (ticket : Byte) (payload : List Byte) (s : State), ¬ lengthAllowed k payload →
    serveKind k payload s = (s, [0x10]) ∧
    (Ready s → ∀ t0, s.link.receiver = .check t0 (byteOf payload.length) k.code ticket payload
        (some (crc8 (byteOf payload.length :: k.code :: ticket :: payload))) →
      exec .frameComplete s = .next
        (answered (k.code + 0x80) ticket [0x10] { s with link := { s.link with receiver := .hunting } }))

/-- IDENT and TIME (R193). The fields of STATUS, in the order of R194. -/
def Obligations.IdentTimeAndStatusReplies : Prop :=
  (∀ (t : Byte) (s : State), Ready s →
      exec (.ident t) s = .next (answered 0x81 t [0x00, 0x57, 0xC1, 0x24, 0x01] s) ∧
      exec (.time t) s = .next (answered 0x83 t (0x00 :: le32 s.airClock) s)) ∧
  (∀ (t : Byte) (s : State), Ready s →
      exec (.status t) s = .next (answered 0x82 t
        ([0x00, s.control.mode.code, byteOf (s.dwells.operating.getD 0), s.dwells.survey.phase.code] ++
          [TrackerState.free, .candidate, .acquiring, .locked, .dormant].map (fun x =>
            byteOf (s.tracking.entries.countP (fun e => decide (e.state = x)))) ++
          [byteOf (s.planner.queue.countP (fun e => decide (e.lane = .a))),
           byteOf (s.planner.queue.countP (fun e => decide (e.lane = .b))), byteOf s.planner.series.length,
           if s.planner.template.isSome then 1 else 0,
           byteOf ((if s.link.flags.slipOvf then 1 else 0) + (if s.link.flags.escalated then 2 else 0)
             + (if s.link.flags.reportLost then 4 else 0)),
           byteOf s.link.errors, byteOf s.escalation.score] ++ le32 s.airClock) s))

/-- SET_REPORTS sets the enables, and a report handed over is judged by them: not queued when its kind is disabled;
queued, with LOST in its flags byte when the LOST-pending mark was set, which it clears; and discarded, setting the mark
and REPORT_LOST, when the queue holds 16 (R190, R191). The cold start enables and what restarts do to the mark are
stated too. -/
def Obligations.ReportsQueuedByTheirEnables : Prop :=
  (∀ (t e : Byte) (s : State), Ready s →
    exec (.setReports t e) s = .next (answered 0x84 t [0x00, e] { s with link := { s.link with enables := e } })) ∧
  (∀ (l : Link) (k : ReportKind) (fields : List Byte),
    (l.enables.getLsbD k.bit = false → l.hand k fields = l) ∧
    (l.enables.getLsbD k.bit = true → l.reports.length < 16 →
      l.hand k fields = { l with
        reports := l.reports ++
          [{ kind := 0xC0 + BitVec.ofNat 8 k.bit, ticket := 0
             payload := (if l.lostPending then 1 else 0) :: fields }]
        lostPending := false }) ∧
    (l.enables.getLsbD k.bit = true → 16 ≤ l.reports.length →
      l.hand k fields = { l with lostPending := true, flags := { l.flags with reportLost := true } })) ∧
  Link.cold.enables = 0xF9 ∧ (∀ l : Link, l.warm.lostPending = false ∧ l.warm.reports = []) ∧
  (∀ (l : Link) (now : Instant), (l.coldRunning now).lostPending = false ∧ (l.coldRunning now).reports = [])

/-- CLEAR_FLAGS clears the flags whose bit is 1, and the link error count when the count byte is 1, and its reply gives
both as they stood; another count byte is refused (R192). A flag or a count that the request clears is given as the
instant found it, so that what was set or counted at the same instant does not show, whichever was taken first, and one
that it leaves alone as it stands (log 38). The count's size in the reply, one byte, is DEDUCED (log 43). A link error
counted is held at 255, and neither it nor a flag set changes what the instant found. -/
def Obligations.ClearFlagsClearsTheNamedFlags : Prop :=
  (∀ (t flags count : Byte) (s : State), Ready s →
    (count = 0 ∨ count = 1 →
      exec (.clearFlags t flags count) s = .next (answered 0x85 t
        [0x00,
         byteOf (
           (if (if flags.getLsbD 0 then s.link.flagsBefore.slipOvf else s.link.flags.slipOvf) then 1 else 0)
           + (if (if flags.getLsbD 1 then s.link.flagsBefore.escalated else s.link.flags.escalated) then 2 else 0)
           + (if (if flags.getLsbD 2 then s.link.flagsBefore.reportLost else s.link.flags.reportLost) then 4 else 0)),
         byteOf (if count = 1 then s.link.errorsBefore else s.link.errors)]
        { s with link := { s.link with
          flags :=
            { slipOvf := s.link.flags.slipOvf && !flags.getLsbD 0
              escalated := s.link.flags.escalated && !flags.getLsbD 1
              reportLost := s.link.flags.reportLost && !flags.getLsbD 2 }
          errors := if count = 1 then 0 else s.link.errors
          flagsBefore :=
            { slipOvf := s.link.flagsBefore.slipOvf && !flags.getLsbD 0
              escalated := s.link.flagsBefore.escalated && !flags.getLsbD 1
              reportLost := s.link.flagsBefore.reportLost && !flags.getLsbD 2 }
          errorsBefore := if count = 1 then 0 else s.link.errorsBefore } })) ∧
    (count ≠ 0 → count ≠ 1 → exec (.clearFlags t flags count) s = .next (answered 0x85 t [0x11] s))) ∧
  (∀ l : Link, l.countError = { l with errors := min 255 (l.errors + 1) } ∧
    l.setSlipOvf = { l with flags := { l.flags with slipOvf := true } } ∧
    l.setEscalated = { l with flags := { l.flags with escalated := true } })

/-- RESTART sets the restart mark and is answered with its kind; another kind byte is refused (R174). While the
restart mark is set every request is dropped without a reply, and so is a frame that completes on the line, which
sends the receiver back to hunting and counts no link error (R175). -/
def Obligations.RestartMarkSetAndRequestsDropped : Prop :=
  (∀ (t kind : Byte) (s : State), Ready s →
      (kind = 0 → exec (.restart t kind) s = .next (answered 0x86 t [0x00, 0x00]
        { s with control := { s.control with mark := some .warm } })) ∧
      (kind = 1 → exec (.restart t kind) s = .next (answered 0x86 t [0x00, 0x01]
        { s with control := { s.control with mark := some .cold } })) ∧
      (1 < kind.toNat → exec (.restart t kind) s = .next (answered 0x86 t [0x11] s))) ∧
  (∀ (s : State) (k : RestartKind), s.control.mark = some k →
      (∀ c f, requestOf c = some f → exec c s = .next s) ∧
      (∀ f crc, Running s → completeFrame s = some (f, crc) →
        exec .frameComplete s = .next { s with link := { s.link with receiver := .hunting } }))

/-! ### Mode requests (chapter 9) -/

/-- START from STANDBY with an operating channel: the mode is entered, a pending plan is applied, the first dwell is
an operating dwell on O with the scan pointer at the start, the advice state is re-armed, the sense receiver takes the
dwell start, and the lines show the code of the mode (R167, R42, R37, R13, R51, R118). The checks of START, in order:
the mode byte, the mode, the operating channel (R167). -/
def Obligations.StartBeginsTheDwellSequence : Prop :=
  (∀ (t : Byte) (m : Mode) (o : Nat) (s : State), Ready s → s.control.mode = .standby → s.dwells.operating = some o →
      m = .observe ∨ m = .active →
      ∃ t' : State, exec (.start t m.code) s = .next (answered 0x88 t [0x00, m.code] t') ∧
        t' = { s with
          control := { s.control with mode := m }
          dwells := { s.dwells with
            plan := s.dwells.pendingPlan.getD s.dwells.plan, pendingPlan := none, pointer := 0, group := 0
            forceOperating := false, advice := { armed := true, passes := 0 }
            current := some
              { kind := .operating, channel := o, start := s.airClock
                plannedEnd := s.airClock + BitVec.ofNat 32 (s.dwells.pendingPlan.getD s.dwells.plan).operatingLength
                busy := 0, unstructuredBusy := 0, observed := 0, structuredCount := 0, unstructuredCount := 0 } }
          sense := { s.sense with
            settings := s.sense.pendingSettings.getD s.sense.settings, pendingSettings := none
            detector := .quiet { count := 0, first := 0, code := .openAir }, fresh := true
            restartPoint := s.airClock, restartCode := s.planner.lines
            tuned := some o
            tuning := if s.sense.tuned = some o then s.sense.tuning else .settling (s.airClock + 200)
            observedSince := if s.sense.tuned = some o then s.sense.observedSince else none }
          planner := { s.planner with lines := t'.planner.lines } } ∧
        t'.planner.lines = formedCode t' ∧ (m = .observe → t'.planner.lines = .openAir)) ∧
  (∀ (t mode : Byte) (s : State), Ready s →
      (mode ≠ 1 → mode ≠ 2 → exec (.start t mode) s = .next (answered 0x88 t [0x11] s)) ∧
      (mode = 1 ∨ mode = 2 → s.control.mode ≠ .standby →
        exec (.start t mode) s = .next (answered 0x88 t [0x12] s)) ∧
      (mode = 1 ∨ mode = 2 → s.control.mode = .standby → s.dwells.operating = none →
        exec (.start t mode) s = .next (answered 0x88 t [0x13] s)))

/-- STOP from a running mode: STANDBY, every booking and series gone without reports, the dwell abandoned and a survey
aborted with its report, the sense receiver idle with its burst and held record discarded, every pending rise dropped,
the lines OPEN, and everything else kept (R168, R14, R42, R56, R85, R148). Of an aborted survey R56 gives only the phase
NONE; that its channel, duration and tracker list are kept is the model's choice (log 6). In STANDBY it is refused. -/
def Obligations.StopReturnsToStandby : Prop :=
  ∀ (t : Byte) (s : State), Ready s →
    (s.control.mode = .standby → exec (.stop t) s = .next (answered 0x89 t [0x12] s)) ∧
    (s.control.mode ≠ .standby → exec (.stop t) s = .next (answered 0x89 t [0x00, 0x00]
      { s with
        control := { s.control with mode := .standby }
        sense := { s.sense with
          tuned := none, tuning := .idle, observedSince := none
          detector := .quiet { count := 0, first := 0, code := .openAir }, held := none }
        dwells := { s.dwells with
          current := none, pointer := 0, survey := { s.dwells.survey with phase := .none } }
        tracking := { s.tracking with entries := s.tracking.entries.map (fun e => { e with pendingRise := none }) }
        planner := { s.planner with lines := .openAir, queue := [], series := [] }
        link :=
          if s.dwells.survey.phase = .none then s.link
          else s.link.hand .surveyDone [0x20, byteOf s.dwells.survey.channel, 0, 0, 0, 0, 0, 0, 0] }))

/-- SET_MODE and RESUME between two running modes: the mode is set and the lines show its code (R118), the window planner
acts by the pair of modes, and the reply carries the mode (R169, R170, R171). On leaving ACTIVE or FALLBACK for OBSERVE
or HOLD every entry is removed in the queue's order with a DISPLACED report of reason MODE, and every series is SUSPENDED
with no retry instant (R145); on entering ACTIVE from OBSERVE or HOLD every series is RUNNING and each that was SUSPENDED
is rebased with cause RESUME, in order of id (R146); between ACTIVE and FALLBACK the bookings are kept, with a plan
change; and between OBSERVE and HOLD nothing else changes. The count of the replies of this instant is the model's own
(log 33). -/
def Obligations.ModeChangesAmongRunningModes : Prop :=
  ∀ (t : Byte) (new : Mode) (c : Instr) (kind : Byte) (s : State), Ready s →
    s.control.mode ≠ .standby → new ≠ .standby → s.control.mode ≠ new →
    (new = .fallback → s.control.mode = .active ∧ s.planner.template.isSome = true) →
    (c = .setMode t new.code ∧ kind = 0x8A) ∨
      (c = .resume t ∧ kind = 0x8B ∧ new = .active ∧ s.control.mode ≠ .observe) →
    ∀ (changed shown : State) (answer : State → Host.Outcome State Fault Refusal),
      changed = { s with control := { s.control with mode := new } } →
      shown = { changed with planner := { changed.planner with lines := formedCode changed } } →
      (∀ v, answer v = .next (answered kind t [0x00, new.code]
        { v with
          planner := { v.planner with lines := formedCode v }
          control := { v.control with modeReplies := s.control.modeReplies + 1 } })) →
    (s.control.mode.steers = true → new.steers = false →
      exec c s = answer { shown with
        planner := { shown.planner with
          queue := [], series := s.planner.series.map (fun x => { x with state := .suspended, retry := none }) }
        link := s.planner.queue.foldl (fun l e => l.hand .displaced
          ([e.lane.code, e.origin.code, s.entryTag e.origin] ++ le32 e.start ++ [1])) s.link }) ∧
    (s.control.mode.steers = false → new.steers = true →
      ∀ ids : List Nat,
        ids = [0, 1, 2, 3].filter (fun id => decide (∃ x ∈ s.planner.series, x.state = .suspended ∧ x.id = id)) →
        exec c s = answer (ids.foldl (fun v id => rebase id .resume v) { shown with planner := { shown.planner with
          series := s.planner.series.map (fun x => { x with state := .running }) } })) ∧
    (s.control.mode.steers = true → new.steers = true → exec c s = answer (planChange shown)) ∧
    (s.control.mode.steers = false → new.steers = false → exec c s = answer shown) ∧
    (new = .hold → formedCode shown = .shut) ∧ (new = .observe → formedCode shown = .openAir)

/-- The checks of SET_MODE, in order, and those of RESUME: the mode byte; STANDBY; the present mode again, which changes
nothing but the model's count of the replies of a change at this instant (log 33); FALLBACK from OBSERVE or HOLD;
FALLBACK without a template; and RESUME outside HOLD and FALLBACK (R169, R171). -/
def Obligations.ModeRequestsRefusedInOrder : Prop :=
  ∀ (t mode : Byte) (s : State), Ready s →
    (mode.toNat = 0 ∨ 4 < mode.toNat → exec (.setMode t mode) s = .next (answered 0x8A t [0x11] s)) ∧
    (1 ≤ mode.toNat → mode.toNat ≤ 4 → s.control.mode = .standby →
      exec (.setMode t mode) s = .next (answered 0x8A t [0x12] s)) ∧
    (s.control.mode ≠ .standby → mode = s.control.mode.code →
      (s.control.modeReplies = 0 → exec (.setMode t mode) s = .next (answered 0x8A t [0x00, mode] s)) ∧
      (s.control.modeReplies ≠ 0 → exec (.setMode t mode) s = .next (answered 0x8A t [0x00, mode]
        { s with control := { s.control with modeReplies := s.control.modeReplies + 1 } }))) ∧
    (s.control.mode = .observe ∨ s.control.mode = .hold → mode = 3 →
      exec (.setMode t mode) s = .next (answered 0x8A t [0x12] s)) ∧
    (s.control.mode = .active → mode = 3 → s.planner.template = none →
      exec (.setMode t mode) s = .next (answered 0x8A t [0x1B] s)) ∧
    (s.control.mode ≠ .hold → s.control.mode ≠ .fallback →
      exec (.resume t) s = .next (answered 0x8B t [0x12] s))

/-! ### Sense receiver and dwell scheduler requests (chapters 2 and 3) -/

/-- SET_DETECT: a time code with bit 15 set, or a structured detection byte other than 0 or 1, is refused; otherwise the
four settings, clamped to their ranges, become the settings pending, and the reply carries them (R31, R8). -/
def Obligations.SetDetectSetsThePendingSettings : Prop :=
  ∀ (t threshold structured : Byte) (tail gap : Half) (s : State), Ready s →
    (tail.getLsbD 15 = true ∨ gap.getLsbD 15 = true ∨ 1 < structured.toNat →
      exec (.setDetect t threshold structured tail gap) s = .next (answered 0x90 t [0x11] s)) ∧
    (tail.getLsbD 15 = false → gap.getLsbD 15 = false → structured.toNat ≤ 1 →
      ∀ (th : Int) (b g : Nat), th = max (-95) (min (-40) threshold.toInt) →
        b = min 200 (timeCodeValue tail) → g = min 2000 (timeCodeValue gap) →
        exec (.setDetect t threshold structured tail gap) s = .next (answered 0x90 t
          ((if th = threshold.toInt ∧ b = timeCodeValue tail ∧ g = timeCodeValue gap then 0x00 else 0x01) ::
            BitVec.ofInt 8 th :: structured :: le16 (BitVec.ofNat 16 b) ++ le16 (BitVec.ofNat 16 g))
          { s with sense := { s.sense with
            pendingSettings := some
              { threshold := th, structuredOn := decide (structured = 1), tail := b, mergeGap := g } } }))

/-- SET_SCAN: a length that does not agree with the count is answered BAD_LENGTH; a list of more than 13 channels, with a
channel outside 1 to 13 or one twice, an interleave byte above 1 or a time code with bit 15 set is refused; otherwise the
plan, its lengths and margin clamped to Table 3-1, becomes the pending plan (R36). -/
def Obligations.SetScanSetsThePendingPlan : Prop :=
  ∀ (t count : Byte) (channels : List Byte) (interleave : Byte) (operating offChannel margin : Half) (s : State),
    Ready s →
    (count.toNat ≠ channels.length →
      exec (.setScan t count channels interleave operating offChannel margin) s
        = .next (answered 0x91 t [0x10] s)) ∧
    (count.toNat = channels.length →
      (13 < channels.length ∨ (∃ c ∈ channels, c.toNat < 1 ∨ 13 < c.toNat) ∨ ¬ channels.Nodup ∨
        1 < interleave.toNat ∨ operating.getLsbD 15 = true ∨ offChannel.getLsbD 15 = true) →
      exec (.setScan t count channels interleave operating offChannel margin) s
        = .next (answered 0x91 t [0x11] s)) ∧
    (count.toNat = channels.length → channels.length ≤ 13 → (∀ c ∈ channels, 1 ≤ c.toNat ∧ c.toNat ≤ 13) →
      channels.Nodup → interleave.toNat ≤ 1 → operating.getLsbD 15 = false → offChannel.getLsbD 15 = false →
      ∀ a b m : Nat, a = max 50000 (min 1000000 (timeCodeValue operating)) →
        b = max 20000 (min 200000 (timeCodeValue offChannel)) → m = min 1000 margin.toNat →
        exec (.setScan t count channels interleave operating offChannel margin) s = .next (answered 0x91 t
          ((if a = timeCodeValue operating ∧ b = timeCodeValue offChannel ∧ m = margin.toNat then 0x00 else 0x01) ::
            le16 (timeCodeOf a) ++ le16 (timeCodeOf b) ++ le16 (BitVec.ofNat 16 m))
          { s with dwells := { s.dwells with
            pendingPlan := some
              { channels := channels.map BitVec.toNat
                interleave := if interleave = 0 then .alternate else .sparse
                operatingLength := a, offChannelLength := b, margin := m } } }))

/-- SET_CHANNEL: a byte outside 1 to 13 is refused and the present O again has no effect (R34). A change of channel, in
its order: O takes its value, the advice state is re-armed and the scan pointer returns to the start (R35, R51); every
entry is removed without a report, the reply giving their number, and every RUNNING series is rebased with cause CHANNEL
in order of id (R147); an operating or off-channel dwell ends, its records released and its channel record updated (R46),
and an operating dwell on the new O starts with any pending plan in use (R37), while a survey dwell goes on (R35); every
CANDIDATE entry is freed with a report, by rising id (log 34), and every other entry kept (R80); and the request is a
plan change, after which the lines show the code formed (R132, R118). -/
def Obligations.SetChannelChangesTheOperatingChannel : Prop :=
  ∀ (t c : Byte) (s : State), Ready s →
    (c.toNat < 1 ∨ 13 < c.toNat → exec (.setChannel t c) s = .next (answered 0x92 t [0x11] s)) ∧
    (1 ≤ c.toNat → c.toNat ≤ 13 → s.dwells.operating = some c.toNat →
      exec (.setChannel t c) s = .next (answered 0x92 t [0x00, 0x00] s)) ∧
    (1 ≤ c.toNat → c.toNat ≤ 13 → s.dwells.operating ≠ some c.toNat →
      ∀ (ids : List Nat) (v : State) (plan : ScanPlan) (freed : Tracker),
        ids = [0, 1, 2, 3].filter (fun id => decide (∃ x ∈ s.planner.series, x.state = .running ∧ x.id = id)) →
        v = ids.foldl (fun v id => rebase id .channel v) { s with
          dwells := { s.dwells with
            operating := some c.toNat, advice := { armed := true, passes := 0 }, pointer := 0, forceOperating := true }
          planner := { s.planner with queue := [] } } →
        plan = s.dwells.pendingPlan.getD s.dwells.plan →
        freed = { kind := .oven, state := .free, rise := 0, span := [], channel := 0, anchored := false, period := 0
                  anchor := 0, onDuration := 0, run := 0, misses := 0, slips := 0, slipOverflow := false, hits := 0
                  lastHit := none, pendingRise := none, nextRise := 0 } →
      ∃ w t' : State, exec (.setChannel t c) s
          = .next (answered 0x92 t [0x00, BitVec.ofNat 8 s.planner.queue.length] t') ∧
        AirStep v w ∧
        ((∀ d, s.dwells.current = some d → d.kind = .survey) → w = v) ∧
        (∀ d, s.dwells.current = some d → d.kind ≠ .survey → ∃ d' : Dwell,
          d'.uncounted = d.uncounted ∧
          w.dwells.records = (if 10000 ≤ d.observed then
            s.dwells.records.set (d.channel - 1) ((s.channelRecord d.channel).updated d' s.airClock)
            else s.dwells.records) ∧
          w.dwells.current = some
            { kind := .operating, channel := c.toNat, start := s.airClock
              plannedEnd := s.airClock + BitVec.ofNat 32 plan.operatingLength, busy := 0, unstructuredBusy := 0
              observed := 0, structuredCount := 0, unstructuredCount := 0 } ∧
          w.dwells.plan = plan ∧ w.dwells.pendingPlan = none ∧ w.dwells.pointer = 0 ∧
          w.dwells.advice = { armed := true, passes := 0 } ∧ w.dwells.survey.phase = s.dwells.survey.phase ∧
          w.sense.tuned = some c.toNat ∧ w.sense.held = none ∧
          (s.sense.held = none → (∀ below b, s.sense.detector ≠ .inBurst below b) →
            (∀ id < 12, (s.tracker id).pendingRise = none) →
            d' = d ∧ w.tracking = s.tracking ∧ w.planner = v.planner ∧ w.link = v.link ∧ w.control = s.control ∧
              w.escalation = s.escalation)) ∧
        (s.tracking.entries.length = 12 → t' = reform (planChange { w with
          tracking := { w.tracking with
            entries := w.tracking.entries.map (fun e => if e.state = .candidate then freed else e) }
          link := (List.range 12).foldl (fun l id =>
            if (w.tracker id).state = .candidate then
              l.hand .tracker [byteOf id, (w.tracker id).kind.code, 1, 0, 12]
            else l) w.link })) ∧
        t'.dwells = w.dwells ∧ (∀ id < 12, (t'.tracker id).state ≠ .candidate) ∧ t'.planner.lines = formedCode t')

/-- The checks of SURVEY, in order, and the survey it takes: its duration clamped to 20,000 to 2,000,000 µs, phase
WAITING, no tracker in its list (R52). -/
def Obligations.SurveyWaitsForItsBoundary : Prop :=
  ∀ (t c : Byte) (duration : Half) (s : State), Ready s →
    (c.toNat < 1 ∨ 13 < c.toNat ∨ duration.getLsbD 15 = true →
      exec (.survey t c duration) s = .next (answered 0x93 t [0x11] s)) ∧
    (1 ≤ c.toNat → c.toNat ≤ 13 → duration.getLsbD 15 = false →
      (s.control.mode = .standby → exec (.survey t c duration) s = .next (answered 0x93 t [0x12] s)) ∧
      (s.control.mode ≠ .standby → s.dwells.survey.phase ≠ .none →
        exec (.survey t c duration) s = .next (answered 0x93 t [0x14] s)) ∧
      (s.control.mode ≠ .standby → s.dwells.survey.phase = .none →
        ∀ d, d = max 20000 (min 2000000 (timeCodeValue duration)) →
          exec (.survey t c duration) s = .next (answered 0x93 t
            ((if d = timeCodeValue duration then 0x00 else 0x01) :: le16 (timeCodeOf d))
            { s with dwells := { s.dwells with
              survey := { phase := .waiting, channel := c.toNat, duration := d, trackers := [] } } })))

/-- READ_CHANNELS gives O and the 13 channel records in channel order (R47). RANKING gives the 13 scores: 2,000 for an
unvisited channel, and otherwise its load plus the duties of the OVEN trackers in LOCKED or DORMANT that cover it,
held at 2,000; a duty is its busy share with guards in permille, rounded up and held at 1,000 (R48, R49). -/
def Obligations.ChannelRecordsAndRanking : Prop :=
  (∀ (t : Byte) (s : State), Ready s →
      exec (.readChannels t) s = .next (answered 0x94 t
        (0x00 :: byteOf (s.dwells.operating.getD 0) :: (List.range 13).flatMap (fun i =>
          (if (s.channelRecord (i + 1)).visited then 0x01 else 0x00) :: le16n (s.channelRecord (i + 1)).load
            ++ le16n (s.channelRecord (i + 1)).unstructuredLoad ++ le32 (s.channelRecord (i + 1)).lastVisitEnd
            ++ le16n (s.channelRecord (i + 1)).visits)) s)) ∧
  (∀ (t : Byte) (s : State), Ready s →
      exec (.ranking t) s = .next (answered 0x95 t
        (0x00 :: (List.range 13).flatMap (fun i =>
          le16n (if (s.channelRecord (i + 1)).visited then
              min 2000 ((s.channelRecord (i + 1)).load +
                ((s.tracking.entries.filter (fun e => decide (e.kind = .oven ∧ (e.state = .locked ∨ e.state = .dormant) ∧
                    ∃ d ∈ e.span, d ≤ i + 1 + 3 ∧ i + 1 ≤ d + 3))).map (fun e =>
                  min 1000 ((16000 * (e.onDuration + 2 * s.tracking.settings.guardBase) + e.period - 1) / e.period))).sum)
            else 2000))) s))

/-! ### Tracking unit requests (chapter 4) -/

/-- DECLARE_BEACON: its arguments are checked, then the number of BEACON entries. The declared entry has the values of R77,
is reported, and is a plan change. It and a new candidate take the lowest-id FREE entry; with none FREE, the place of the
CANDIDATE of oldest rise, or else of the DORMANT OVEN entry of oldest last hit, evicted with its TRACKER report (R71; the
lower id on a tie of rises: log 23). With no such place DECLARE_BEACON is answered TABLE_FULL and no candidate is created. The
candidate test takes a record of R67: of the candidates whose interval to it is one to four mains periods, the one whose
rise is latest is promoted with the values of R68 (the lower id on a tie: log 23), and with none a new one is created
(R69). A candidate whose rise is 100,000 µs old is never promoted (R70; that this holds of a record released late too is
DEDUCED: log 45). -/
def Obligations.DeclaredBeaconsAndCandidatesTakeTheirPlaces : Prop :=
  ∀ (s : State) (free : Tracker) (age : Nat → Nat) (place : Nat → Link → Prop), s.tracking.entries.length = 12 →
    free = { kind := .oven, state := .free, rise := 0, span := [], channel := 0, anchored := false, period := 0
             anchor := 0, onDuration := 0, run := 0, misses := 0, slips := 0, slipOverflow := false, hits := 0
             lastHit := none, pendingRise := none, nextRise := 0 } →
    (∀ id, age id = if (s.tracker id).state = .candidate then (s.airClock - (s.tracker id).rise).toNat
      else match (s.tracker id).lastHit with | some hit => (s.airClock - hit).toNat | none => 0) →
    (∀ id l, place id l ↔ id < 12 ∧
      (((s.tracker id).state = .free ∧ (∀ j < id, (s.tracker j).state ≠ .free) ∧ l = s.link) ∨
        ((∀ j < 12, (s.tracker j).state ≠ .free) ∧
          l = s.link.hand .tracker [byteOf id, (s.tracker id).kind.code, (s.tracker id).state.code, 0, 10] ∧
          (((s.tracker id).state = .candidate ∧
              ∀ j < 12, (s.tracker j).state = .candidate → age j < age id ∨ (age j = age id ∧ id ≤ j)) ∨
            ((∀ j < 12, (s.tracker j).state ≠ .candidate) ∧
              (s.tracker id).state = .dormant ∧ (s.tracker id).kind = .oven ∧
              ∀ j < 12, (s.tracker j).state = .dormant → (s.tracker j).kind = .oven →
                age j < age id ∨ (age j = age id ∧ id ≤ j)))))) →
    (∀ (t c : Byte) (interval airtime : Half), Ready s →
      (interval.getLsbD 15 = true ∨ airtime.getLsbD 15 = true ∨ c.toNat < 1 ∨ 13 < c.toNat ∨
        timeCodeValue interval < 20000 ∨ 1000000 < timeCodeValue interval ∨
        timeCodeValue airtime < 100 ∨ 5000 < timeCodeValue airtime →
        exec (.declareBeacon t c interval airtime) s = .next (answered 0x98 t [0x11] s)) ∧
      (interval.getLsbD 15 = false → airtime.getLsbD 15 = false → 1 ≤ c.toNat → c.toNat ≤ 13 →
        20000 ≤ timeCodeValue interval → timeCodeValue interval ≤ 1000000 →
        100 ≤ timeCodeValue airtime → timeCodeValue airtime ≤ 5000 →
        (4 ≤ s.tracking.entries.countP (fun e => decide (e.kind = .beacon ∧ e.state ≠ .free)) →
          exec (.declareBeacon t c interval airtime) s = .next (answered 0x98 t [0x1C] s)) ∧
        (s.tracking.entries.countP (fun e => decide (e.kind = .beacon ∧ e.state ≠ .free)) < 4 →
          (∀ id l, place id l →
            exec (.declareBeacon t c interval airtime) s = .next (answered 0x98 t [0x00, byteOf id]
              (reform (planChange { s with
                tracking := { s.tracking with
                  entries := s.tracking.entries.set id
                    { kind := .beacon, state := .acquiring, rise := 0, span := [], channel := c.toNat, anchored := false
                      period := 16 * timeCodeValue interval, anchor := 0, onDuration := timeCodeValue airtime, run := 0
                      misses := 0, slips := 0, slipOverflow := false, hits := 0, lastHit := none, pendingRise := none
                      nextRise := 0 } }
                link := l.hand .tracker [byteOf id, 1, 0, 2, 2] })))) ∧
          ((∀ id < 12, (s.tracker id).state ≠ .free ∧ (s.tracker id).state ≠ .candidate ∧
              ((s.tracker id).state = .dormant → (s.tracker id).kind = .beacon)) →
            exec (.declareBeacon t c interval airtime) s = .next (answered 0x98 t [0x1C] s))))) ∧
    (∀ (r : BurstRecord) (tested : Prop) (interval : Nat → Nat) (cycles : Nat → Nat → Prop),
      (tested ↔ r.structured = false ∧ 3000 ≤ r.duration ∧ r.duration ≤ 13000 ∧ r.cutAtStart = false) →
      (∀ id, interval id = (r.start - (s.tracker id).rise).toNat) →
      (∀ id k, cycles id k ↔ id < 12 ∧ (s.tracker id).state = .candidate ∧
        (s.airClock - (s.tracker id).rise).toNat < 100000 ∧
        (∃ d ∈ (s.tracker id).span, d ≤ r.channel + 3 ∧ r.channel ≤ d + 3) ∧
        1 ≤ k ∧ k ≤ 4 ∧ 15000 * k ≤ interval id ∧ interval id ≤ 21000 * k ∧
        ∀ j, 1 ≤ j → j < k → ¬ (15000 * j ≤ interval id ∧ interval id ≤ 21000 * j)) →
      (¬ tested → candidateTest r s = (s, false)) ∧
      (tested → ∀ id k, cycles id k →
        (∀ j m, cycles j m → interval id < interval j ∨ (interval id = interval j ∧ id ≤ j)) →
        ∃ (n : Nat) (y : Tracker),
          y = { free with
            state := .acquiring, span := spanInsert r.channel (s.tracker id).span
            period := (2 * (16 * interval id) + k) / (2 * k), anchor := BitVec.ofNat 36 (16 * r.start.toNat)
            onDuration := max 2000 (min 14000 r.duration), run := 1, hits := 1, lastHit := some r.start
            nextRise := n } ∧
          (∀ i : Nat, n ≤ i ↔ 1 ≤ i ∧
            0 < (y.anchor - BitVec.ofNat 36 (16 * s.airClock.toNat)).toInt + i * y.period + 16 * 2000) ∧
          candidateTest r s = ({ s with
            tracking := { s.tracking with entries := s.tracking.entries.set id y }
            link := s.link.hand .tracker [byteOf id, 0, 1, 2, 1] }, true)) ∧
      (tested → (∀ id k, ¬ cycles id k) →
        (∀ id l, place id l → candidateTest r s = ({ s with
          tracking := { s.tracking with
            entries := s.tracking.entries.set id
              { free with state := .candidate, rise := r.start, span := [r.channel] } }
          link := l.hand .tracker [byteOf id, 0, 0, 1, 0] }, false)) ∧
        ((∀ id < 12, (s.tracker id).state ≠ .free ∧ (s.tracker id).state ≠ .candidate ∧
            ((s.tracker id).state = .dormant → (s.tracker id).kind = .beacon)) →
          candidateTest r s = (s, false))))

/-- FORGET: an id above 11 is refused and the id of a FREE entry is answered NO_SUCH. Any other entry becomes FREE
with all fields cleared, a TRACKER report of cause FORGOTTEN is handed over, and when the entry was LOCKED or
ACQUIRING the notice brings a plan change (R78). READ_TRACKER: an id above 11 is refused, the id of a FREE entry is
answered NO_SUCH, and any other entry is given in the layout of Table 10-10 (R79). -/
def Obligations.TrackerForgottenAndRead : Prop :=
  (∀ (t id : Byte) (s : State), Ready s →
      (11 < id.toNat → exec (.forget t id) s = .next (answered 0x99 t [0x11] s)) ∧
      (id.toNat ≤ 11 → (s.tracker id.toNat).state = .free →
        exec (.forget t id) s = .next (answered 0x99 t [0x19] s)) ∧
      (id.toNat ≤ 11 → (s.tracker id.toNat).state ≠ .free →
        ∀ u : State, u = { s with
            tracking := { s.tracking with
              entries := s.tracking.entries.set id.toNat
                { kind := .oven, state := .free, rise := 0, span := [], channel := 0, anchored := false, period := 0
                  anchor := 0, onDuration := 0, run := 0, misses := 0, slips := 0, slipOverflow := false, hits := 0
                  lastHit := none, pendingRise := none, nextRise := 0 } }
            link := s.link.hand .tracker
              [byteOf id.toNat, (s.tracker id.toNat).kind.code, (s.tracker id.toNat).state.code, 0, 11] } →
          exec (.forget t id) s = .next (answered 0x99 t [0x00]
            (reform (if (s.tracker id.toNat).state = .locked ∨ (s.tracker id.toNat).state = .acquiring then planChange u
              else u))))) ∧
  (∀ (t id : Byte) (e : Tracker) (s : State), Ready s → e = s.tracker id.toNat →
      (11 < id.toNat → exec (.readTracker t id) s = .next (answered 0x9A t [0x11] s)) ∧
      (id.toNat ≤ 11 → e.state = .free → exec (.readTracker t id) s = .next (answered 0x9A t [0x19] s)) ∧
      (id.toNat ≤ 11 → e.state ≠ .free →
        exec (.readTracker t id) s = .next (answered 0x9A t
          ([0x00, id, if e.kind = .oven then 0 else 1, e.state.code] ++
            le16 (BitVec.ofNat 16 (((List.range 13).map (fun i => if i + 1 ∈ e.span then 2 ^ i else 0)).sum)) ++
            [byteOf e.channel, byteOf ((if e.anchored then 1 else 0) + (if e.slipOverflow then 2 else 0))] ++
            le32 (BitVec.ofNat 32 e.period) ++ le40 e.anchor ++ le16 (BitVec.ofNat 16 e.onDuration) ++
            [byteOf e.run, byteOf e.misses, byteOf e.slips] ++ le16 (BitVec.ofNat 16 e.hits) ++
            le32 (e.lastHit.getD 0) ++ le32 (if e.state = .candidate then e.rise else 0)) s)))

/-- SET_TRACKING: a time code with bit 15 set is refused; otherwise the six settings are clamped to Table 4-4, the guard
cap against the G_base as applied, and take effect at once: every LOCKED entry whose misses are at or above the new miss
limit becomes DORMANT with misses 0 and a TRACKER report of cause MISSES, by rising id (log 34), no other entry changes,
and the request is a plan change (R81, R82, R84). -/
def Obligations.SetTrackingAppliesTheSettings : Prop :=
  ∀ (t : Byte) (gBase gBeacon : Half) (rate : Byte) (cap : Half) (lockRun missLimit : Byte) (s : State), Ready s →
    (gBase.getLsbD 15 = true ∨ gBeacon.getLsbD 15 = true ∨ cap.getLsbD 15 = true →
      exec (.setTracking t gBase gBeacon rate cap lockRun missLimit) s = .next (answered 0x9B t [0x11] s)) ∧
    (gBase.getLsbD 15 = false → gBeacon.getLsbD 15 = false → cap.getLsbD 15 = false →
      s.tracking.entries.length = 12 →
      ∀ x : TrackSettings,
        x = { guardBase := min 2000 (timeCodeValue gBase), beaconGuard := min 1000 (timeCodeValue gBeacon)
              wideningRate := min 100 rate.toNat
              guardCap := max (min 2000 (timeCodeValue gBase)) (min 3000 (timeCodeValue cap))
              lockRun := max 3 (min 15 lockRun.toNat), missLimit := max 2 (min 31 missLimit.toNat) } →
        exec (.setTracking t gBase gBeacon rate cap lockRun missLimit) s = .next (answered 0x9B t
          ((if x.guardBase = timeCodeValue gBase ∧ x.beaconGuard = timeCodeValue gBeacon ∧
              x.wideningRate = rate.toNat ∧ x.guardCap = timeCodeValue cap ∧ x.lockRun = lockRun.toNat ∧
              x.missLimit = missLimit.toNat then 0x00 else 0x01) ::
            le16 (BitVec.ofNat 16 x.guardBase) ++ le16 (BitVec.ofNat 16 x.beaconGuard) ++ [byteOf x.wideningRate] ++
            le16 (BitVec.ofNat 16 x.guardCap) ++ [byteOf x.lockRun, byteOf x.missLimit])
          (reform (planChange { s with
            tracking :=
              { settings := x
                entries := s.tracking.entries.map (fun e =>
                  if e.state = .locked ∧ x.missLimit ≤ e.misses then
                    { e with state := .dormant, misses := 0, pendingRise := none }
                  else e) }
            link := (List.range 12).foldl (fun l id =>
              if (s.tracker id).state = .locked ∧ x.missLimit ≤ (s.tracker id).misses then
                l.hand .tracker [byteOf id, (s.tracker id).kind.code, 3, 4, 6]
              else l) s.link }))))

/-! ### Window planner requests (chapters 6 and 7) -/

/-- SET_RULES: a length that does not agree with the count is answered BAD_LENGTH; a count of 0 or above 8, or a byte
outside its codes, is refused; otherwise the carried rules become rules 0 onward and disabled rules follow to make
eight, the threshold takes its clamped value, and the request is a plan change after which the lines show the code of
the new list (R114). READ_RULES gives the rules in number order, each as its three bytes, and the load threshold
(R115). -/
def Obligations.RulesReplacedAndRead : Prop :=
  (∀ (t count : Byte) (threshold : Half) (s : State), Ready s →
      (∀ bytes : List RuleBytes,
        (count.toNat ≠ bytes.length →
          exec (.setRules t count bytes threshold) s = .next (answered 0xA0 t [0x10] s)) ∧
        (count.toNat = bytes.length →
          (bytes.length = 0 ∨ 8 < bytes.length ∨
            ∃ b ∈ bytes, 5 < b.predicate.toNat ∨ 1 < b.invert.toNat ∨ 1 < b.action.toNat) →
          exec (.setRules t count bytes threshold) s = .next (answered 0xA0 t [0x11] s))) ∧
      (∀ rules : List Rule, count.toNat = rules.length → 1 ≤ rules.length → rules.length ≤ 8 →
        ∀ n, n = min 1000 threshold.toNat →
          exec (.setRules t count
              (rules.map (fun r =>
                { predicate := r.predicate.code, invert := if r.invert then 1 else 0, action := r.action.code }))
              threshold) s
            = .next (answered 0xA0 t ((if n = threshold.toNat then 0x00 else 0x01) :: le16 (BitVec.ofNat 16 n))
              (reform (planChange { s with planner := { s.planner with
                rules := rules ++
                  List.replicate (8 - rules.length) { predicate := .always, invert := true, action := .openAir }
                loadThreshold := n } }))))) ∧
  (∀ (t : Byte) (s : State), Ready s →
      exec (.readRules t) s = .next (answered 0xA1 t
        (0x00 :: s.planner.rules.flatMap (fun r => [r.predicate.code, if r.invert then 1 else 0, r.action.code])
          ++ le16 (BitVec.ofNat 16 s.planner.loadThreshold)) s))

/-- ARM_TEMPLATE, in its order of checks, copies the LOCKED OVEN tracker covering O of highest hits, the lower id on a
tie, with the margin as applied, as a plan change that leaves the lines alone; DROP_TEMPLATE makes the template absent
(R119, R120). The margin as applied is given as a time code (log 11). -/
def Obligations.TemplateArmedAndDropped : Prop :=
  ∀ (t : Byte) (margin : Option Half) (s : State), Ready s →
    ((∃ m, margin = some m ∧ m.getLsbD 15 = true) →
      exec (.armTemplate t margin) s = .next (answered 0xA2 t [0x11] s)) ∧
    ((∀ m, margin = some m → m.getLsbD 15 = false) → s.control.mode = .fallback →
      exec (.armTemplate t margin) s = .next (answered 0xA2 t [0x12] s)) ∧
    (s.control.mode = .fallback → exec (.dropTemplate t) s = .next (answered 0xA3 t [0x12] s)) ∧
    (s.control.mode ≠ .fallback →
      (s.planner.template = none → exec (.dropTemplate t) s = .next (answered 0xA3 t [0x1B] s)) ∧
      (s.planner.template ≠ none →
        exec (.dropTemplate t) s
          = .next (answered 0xA3 t [0x00] { s with planner := { s.planner with template := none } })) ∧
      ((∀ m, margin = some m → m.getLsbD 15 = false) →
        ∀ source : Nat → Prop,
          (∀ id, source id ↔ id < 12 ∧ (s.tracker id).kind = .oven ∧ (s.tracker id).state = .locked ∧
            ∃ o, s.dwells.operating = some o ∧ ∃ d ∈ (s.tracker id).span, d ≤ o + 3 ∧ o ≤ d + 3) →
          ((∀ id, ¬ source id) → exec (.armTemplate t margin) s = .next (answered 0xA2 t [0x1A] s)) ∧
          (∀ id, source id →
            (∀ j, source j → (s.tracker j).hits < (s.tracker id).hits ∨
              ((s.tracker j).hits = (s.tracker id).hits ∧ id ≤ j)) →
            ∀ (x : Tracker) (m : Nat), x = s.tracker id →
              m = (match margin with | none => 500 | some f => min 2000 (timeCodeValue f)) →
              exec (.armTemplate t margin) s = .next (answered 0xA2 t
                ((if margin = none ∨ margin.map timeCodeValue = some m then 0x00 else 0x01) :: byteOf id ::
                  le16 (timeCodeOf m) ++
                  le16 (timeCodeOf (((x.anchor.toNat + 15) / 16 - x.anchor.toNat / 16) + x.onDuration
                    + 2 * (s.tracking.settings.guardBase + m))))
                (planChange { s with planner := { s.planner with
                  template := some
                    { period := x.period, anchor := x.anchor, onDuration := x.onDuration
                      ovenGuard := s.tracking.settings.guardBase, margin := m } } })))))

/-- BOOK in its order of checks (R129), and its search from now + max(earliest, 500) to now + deadline: on a fit the
one-shot is placed, COMMITTED when its start lies within 2,000 µs and PENDING otherwise, and answered GRANTED (Table 10-9);
on no fit TOO_LONG carries the longest base-OPEN run when that is shorter than the window, and NO_ROOM says that it is not
(R130). -/
def Obligations.BookGrantsOrRefuses : Prop :=
  ∀ (t lane tag : Byte) (length earliest deadline : Half) (s : State), Ready s →
    ∀ L E D : Nat, L = timeCodeValue length → E = timeCodeValue earliest → D = timeCodeValue deadline →
    ((length.getLsbD 15 = true ∨ earliest.getLsbD 15 = true ∨ deadline.getLsbD 15 = true ∨ 1 < lane.toNat ∨ tag = 0 ∨
        L < 100 ∨ 1000000 < D ∨ D < E + L) →
      exec (.book t lane tag length earliest deadline) s = .next (answered 0xA8 t [0x11] s)) ∧
    (length.getLsbD 15 = false → earliest.getLsbD 15 = false → deadline.getLsbD 15 = false → tag ≠ 0 →
      100 ≤ L → D ≤ 1000000 → E + L ≤ D → ∀ X : Lane, lane = X.code →
      (s.control.mode ≠ .active → s.control.mode ≠ .fallback →
        exec (.book t lane tag length earliest deadline) s = .next (answered 0xA8 t [0x12] s)) ∧
      (s.control.mode = .active ∨ s.control.mode = .fallback →
        ((∃ e ∈ s.planner.queue, e.lane = X ∧ e.origin = .oneShot tag) ∨
            (∃ x ∈ s.planner.series, x.lane = X ∧ x.tag = tag) →
          exec (.book t lane tag length earliest deadline) s = .next (answered 0xA8 t [0x18] s)) ∧
        ((∀ e ∈ s.planner.queue, ¬ (e.lane = X ∧ e.origin = .oneShot tag)) →
          (∀ x ∈ s.planner.series, ¬ (x.lane = X ∧ x.tag = tag)) →
          (s.planner.admits X = false →
            exec (.book t lane tag length earliest deadline) s = .next (answered 0xA8 t [0x15] s)) ∧
          (s.planner.admits X = true →
            (∀ d : Int, placementSearch s none (max E 500 : Nat) D L = some d →
              ∀ (start : Instant) (st : EntryState), start = s.airClock + BitVec.ofInt 32 d →
                st = (if (start - s.airClock).toInt ≤ 2000 then .committed else .pending) →
                exec (.book t lane tag length earliest deadline) s = .next (answered 0xA8 t
                  ([0x02, lane, tag, st.code] ++ le32 start ++ le16 (timeCodeOf L) ++ le32 s.airClock)
                  { s with planner := { s.planner with
                    queue := insertEntry
                      { lane := X, origin := .oneShot tag, start := start, length := L
                        deadline := s.airClock + BitVec.ofNat 32 D, state := st } s.planner.queue } })) ∧
            (placementSearch s none (max E 500 : Nat) D L = none →
              (longestOpenRun s (max E 500 : Nat) D < L →
                exec (.book t lane tag length earliest deadline) s = .next (answered 0xA8 t
                  (0x17 :: le32 (BitVec.ofNat 32 (longestOpenRun s (max E 500 : Nat) D))) s)) ∧
              (L ≤ longestOpenRun s (max E 500 : Nat) D →
                exec (.book t lane tag length earliest deadline) s = .next (answered 0xA8 t [0x16] s)))))))

/-- CANCEL and SERIES_CLOSE: a lane byte above 1 or a tag of 0 is refused; a tag that no one-shot, or no series, of the
lane holds is answered NO_SUCH; otherwise the one-shot is removed, or the series with every entry it holds, without a
report or a plan change, the reply being ENDED_EARLY when an entry removed was OPEN (R137, R144). -/
def Obligations.CancelAndSeriesClose : Prop :=
  ∀ (t lane tag : Byte) (s : State), Ready s →
    (1 < lane.toNat ∨ tag = 0 →
      exec (.cancel t lane tag) s = .next (answered 0xA9 t [0x11] s) ∧
      exec (.seriesClose t lane tag) s = .next (answered 0xAB t [0x11] s)) ∧
    (tag ≠ 0 → ∀ X : Lane, lane = X.code →
      ((∀ e ∈ s.planner.queue, ¬ (e.lane = X ∧ e.origin = .oneShot tag)) →
        exec (.cancel t lane tag) s = .next (answered 0xA9 t [0x19] s)) ∧
      (∀ e, s.planner.queue.find? (fun e => decide (e.lane = X ∧ e.origin = .oneShot tag)) = some e →
        exec (.cancel t lane tag) s = .next (answered 0xA9 t [if e.state = .opened then 0x03 else 0x00]
          (reform { s with planner := { s.planner with
            queue := s.planner.queue.filter (fun e => decide (¬ (e.lane = X ∧ e.origin = .oneShot tag))) } }))) ∧
      ((∀ x ∈ s.planner.series, ¬ (x.lane = X ∧ x.tag = tag)) →
        exec (.seriesClose t lane tag) s = .next (answered 0xAB t [0x19] s)) ∧
      (∀ x, s.planner.series.find? (fun x => decide (x.lane = X ∧ x.tag = tag)) = some x →
        exec (.seriesClose t lane tag) s = .next (answered 0xAB t
          [if ∃ e ∈ s.planner.queue, e.origin = .series x.id ∧ e.state = .opened then 0x03 else 0x00]
          (reform { s with planner := { s.planner with
            series := s.planner.series.filter (fun y => decide (y.id ≠ x.id))
            queue := s.planner.queue.filter (fun e => decide (e.origin ≠ .series x.id)) } }))))

/-- SERIES_OPEN in its order of checks, and its search of one whole period: on a fit the series is created RUNNING with
the lowest free id, its anchor at the start found, and the entry of occurrence 0 is placed there (R140). -/
def Obligations.SeriesOpenCreatesTheSeries : Prop :=
  ∀ (t lane tag : Byte) (period length slide : Half) (s : State), Ready s →
    ∀ P L J : Nat, P = timeCodeValue period → L = timeCodeValue length → J = timeCodeValue slide →
    ((period.getLsbD 15 = true ∨ length.getLsbD 15 = true ∨ slide.getLsbD 15 = true ∨ 1 < lane.toNat ∨ tag = 0 ∨
        P < 2000 ∨ 200000 < P ∨ L < 100 ∨ 8000 < L ∨ P < 2 * J ∨ P < L + J) →
      exec (.seriesOpen t lane tag period length slide) s = .next (answered 0xAA t [0x11] s)) ∧
    (period.getLsbD 15 = false → length.getLsbD 15 = false → slide.getLsbD 15 = false → tag ≠ 0 →
      2000 ≤ P → P ≤ 200000 → 100 ≤ L → L ≤ 8000 → 2 * J ≤ P → L + J ≤ P → ∀ X : Lane, lane = X.code →
      (s.control.mode ≠ .active → s.control.mode ≠ .fallback →
        exec (.seriesOpen t lane tag period length slide) s = .next (answered 0xAA t [0x12] s)) ∧
      (s.control.mode = .active ∨ s.control.mode = .fallback →
        ((∃ e ∈ s.planner.queue, e.lane = X ∧ e.origin = .oneShot tag) ∨
            (∃ x ∈ s.planner.series, x.lane = X ∧ x.tag = tag) →
          exec (.seriesOpen t lane tag period length slide) s = .next (answered 0xAA t [0x18] s)) ∧
        ((∀ e ∈ s.planner.queue, ¬ (e.lane = X ∧ e.origin = .oneShot tag)) →
          (∀ x ∈ s.planner.series, ¬ (x.lane = X ∧ x.tag = tag)) →
          (4 ≤ s.planner.series.length →
            exec (.seriesOpen t lane tag period length slide) s = .next (answered 0xAA t [0x1C] s)) ∧
          (s.planner.series.length < 4 →
            (s.planner.admits X = false →
              exec (.seriesOpen t lane tag period length slide) s = .next (answered 0xAA t [0x15] s)) ∧
            (s.planner.admits X = true →
              (placementSearch s none 500 (500 + P + L) L = none →
                exec (.seriesOpen t lane tag period length slide) s = .next (answered 0xAA t [0x16] s)) ∧
              (∀ (d : Int) (id : Nat), placementSearch s none 500 (500 + P + L) L = some d →
                id < 4 → (∀ x ∈ s.planner.series, x.id ≠ id) → (∀ j < id, ∃ x ∈ s.planner.series, x.id = j) →
                ∀ (start : Instant) (st : EntryState), start = s.airClock + BitVec.ofInt 32 d →
                  st = (if (start - s.airClock).toInt ≤ 2000 then .committed else .pending) →
                  exec (.seriesOpen t lane tag period length slide) s = .next (answered 0xAA t
                    ([0x00, byteOf id] ++ le32 start ++ le16 (timeCodeOf P) ++ le16 (timeCodeOf L)
                      ++ le16 (timeCodeOf J))
                    { s with planner := { s.planner with
                      series := insertSeries
                        { id := id, lane := X, tag := tag, period := P, length := L, slide := J, anchor := start
                          index := 0, consecutiveSkips := 0, totalSkips := 0, state := .running, retry := none }
                        s.planner.series
                      queue := insertEntry
                        { lane := X, origin := .series id, start := start, length := L
                          deadline := start + BitVec.ofNat 32 (J + L), state := st }
                        s.planner.queue } })))))))

/-- SET_LANES is taken in STANDBY alone: each reserve is clamped to 0 to 6 and takes its value, and the reply gives
the two reserves and the shared capacity (R124). READ_BOOKINGS gives the queue with part 0, the series table with part
1, and refuses any other part (R149). The shared capacity is one byte (log 40), and in a
series record the sizes of index and skip counts and the place of the retry mark, after its instant, are the model's
choice (log 10). -/
def Obligations.LaneReservesAndReadBookings : Prop :=
  (∀ (t a b : Byte) (s : State), Ready s →
      (s.control.mode ≠ .standby → exec (.setLanes t a b) s = .next (answered 0xAC t [0x12] s)) ∧
      (s.control.mode = .standby → ∀ x y : Nat, x = min 6 a.toNat → y = min 6 b.toNat →
        exec (.setLanes t a b) s = .next (answered 0xAC t
          [if x = a.toNat ∧ y = b.toNat then 0x00 else 0x01, byteOf x, byteOf y, byteOf (16 - x - y)]
          { s with planner := { s.planner with reserveA := x, reserveB := y } })) ∧
      Planner.cold.reserveA = 2 ∧ Planner.cold.reserveB = 2 ∧
      (∀ p : Planner, p.warm.reserveA = p.reserveA ∧ p.warm.reserveB = p.reserveB)) ∧
  (∀ (t part : Byte) (s : State), Ready s →
      (1 < part.toNat → exec (.readBookings t part) s = .next (answered 0xAD t [0x11] s)) ∧
      (part = 0 → exec (.readBookings t part) s = .next (answered 0xAD t
        ([0x00, byteOf s.planner.reserveA, byteOf s.planner.reserveB, byteOf s.planner.queue.length] ++
          s.planner.queue.flatMap (fun e =>
            (match e.origin with
              | .oneShot tag => [e.lane.code, 0xFF, tag]
              | .series id => [e.lane.code, byteOf id,
                  ((s.planner.series.find? (fun x => decide (x.id = id))).map Series.tag).getD 0]) ++
            [e.state.code] ++ le32 e.start ++ le32 e.deadline ++ le16 (timeCodeOf e.length))) s)) ∧
      (part = 1 → exec (.readBookings t part) s = .next (answered 0xAD t
        ([0x00, byteOf s.planner.series.length] ++ s.planner.series.flatMap (fun x =>
          [byteOf x.id, x.lane.code, x.tag] ++ le16 (timeCodeOf x.period) ++ le16 (timeCodeOf x.length) ++
          le16 (timeCodeOf x.slide) ++ le32 x.anchor ++ [byteOf x.index, byteOf x.consecutiveSkips] ++
          le16 (BitVec.ofNat 16 x.totalSkips) ++ [x.state.code] ++ le32 (x.retry.getD 0) ++
          [if x.retry.isSome then 1 else 0])) s)))

/-! ### Escalation unit requests (chapter 8) -/

/-- SET_ESCALATION: a policy byte above 3 is refused; otherwise the threshold is clamped to 1 to 15, and it and the
policy take their values; the score does not change (R163). READ_FAULT gives the fault record, every field 0 when it
is empty (R161). CLEAR_FAULT empties the fault record and nothing else, and tells whether it was filled and its
further count (R162). That the further count is one byte in both replies is the model's choice (log 42). -/
def Obligations.EscalationSettingsAndFaultRecord : Prop :=
  (∀ (t threshold policy : Byte) (s : State), Ready s →
      (3 < policy.toNat → exec (.setEscalation t threshold policy) s = .next (answered 0xB0 t [0x11] s)) ∧
      (∀ (p : Policy) (n : Nat), policy = p.code → n = max 1 (min 15 threshold.toNat) →
        exec (.setEscalation t threshold policy) s = .next (answered 0xB0 t
          [if n = threshold.toNat then 0x00 else 0x01, byteOf n, policy]
          { s with escalation := { s.escalation with threshold := n, policy := p } }))) ∧
  (∀ (t : Byte) (s : State), Ready s →
      (s.escalation.fault = none →
        exec (.readFault t) s = .next (answered 0xB1 t (List.replicate 19 0x00) s)) ∧
      (∀ f, s.escalation.fault = some f → exec (.readFault t) s = .next (answered 0xB1 t
        ([0x00, 0x01] ++ le32 f.instant ++ [byteOf f.channel, f.modeBefore.code, f.policy.code, f.action.code] ++
          le32 f.surpriseStart ++ le32 (BitVec.ofNat 32 f.surpriseDuration) ++ [byteOf f.further]) s))) ∧
  (∀ (t : Byte) (s : State), Ready s →
      (s.escalation.fault = none → exec (.clearFault t) s = .next (answered 0xB2 t [0x00, 0x00, 0x00] s)) ∧
      (∀ f, s.escalation.fault = some f → exec (.clearFault t) s = .next (answered 0xB2 t [0x00, 0x01, byteOf f.further]
        { s with escalation := { s.escalation with fault := none } })))

/-! ### Events of the serial line (chapter 10) -/

/-- A character with its stop bit high, taken while the receiver does not wait for high, advances the receiver: SYNC from
HUNTING; LEN, KIND and TICKET in HEADER, a LEN above 240 dropping the frame with one link error; payload bytes; and the
CRC byte (R184). Its start bit lay 10 µs earlier (log 15). While the receiver waits for high no character is taken
(R181). -/
def Obligations.CharacterAdvancesTheReceiver : Prop :=
  ∀ (b : Byte) (s : State), Running s →
    (s.link.waitHigh = true → ∀ stop, exec (.characterReceived b stop) s = .next s) ∧
    (s.link.waitHigh = false → ∀ (next : Receiver → State),
      (∀ r, next r = { s with link := { s.link with receiver := r } }) →
      (s.link.receiver = .hunting → b = 0xA5 →
        exec (.characterReceived b true) s = .next (next (.header (s.airClock - 10) []))) ∧
      (s.link.receiver = .hunting → b ≠ 0xA5 → exec (.characterReceived b true) s = .next s) ∧
      (∀ t0, s.link.receiver = .header t0 [] →
        (240 < b.toNat → exec (.characterReceived b true) s = .next
          { s with link := { s.link with receiver := .hunting, errors := min 255 (s.link.errors + 1) } }) ∧
        (b.toNat ≤ 240 → exec (.characterReceived b true) s = .next (next (.header t0 [b])))) ∧
      (∀ t0 len, s.link.receiver = .header t0 [len] →
        exec (.characterReceived b true) s = .next (next (.header t0 [len, b]))) ∧
      (∀ t0 len kind, s.link.receiver = .header t0 [len, kind] →
        exec (.characterReceived b true) s = .next (next
          (if len = 0 then .check t0 len kind b [] none else .payload t0 len kind b []))) ∧
      (∀ t0 len kind ticket bytes, s.link.receiver = .payload t0 len kind ticket bytes →
        (bytes.length + 1 < len.toNat → exec (.characterReceived b true) s
          = .next (next (.payload t0 len kind ticket (bytes ++ [b])))) ∧
        (len.toNat ≤ bytes.length + 1 → exec (.characterReceived b true) s
          = .next (next (.check t0 len kind ticket (bytes ++ [b]) none)))) ∧
      (∀ t0 len kind ticket bytes, s.link.receiver = .check t0 len kind ticket bytes none →
        exec (.characterReceived b true) s = .next (next (.check t0 len kind ticket bytes (some b)))))

/-- A framing error discards the data and sets the wait-for-high mark; in HEADER, PAYLOAD and CHECK it drops the frame
with one link error, and in HUNTING it counts none (R181, R184, R185). The low level then being measured began with
the first of the character's low bits that run to its stop bit (R176; log 15). A frame that has run 3,000 µs from its
SYNC's start bit is dropped with one link error; a low level of 1,000 µs drops the frame, if any, and makes the
receiver hunt and wait for high (R185); RXD high again ends the wait and the low level (R181). -/
def Obligations.FramingErrorsAndTimeouts : Prop :=
  (∀ (b : Byte) (s : State), Running s → s.link.waitHigh = false →
      (∀ t0 len kind ticket bytes crc, s.link.receiver ≠ .check t0 len kind ticket bytes (some crc)) →
      ∃ fall : Instant,
        exec (.characterReceived b false) s = .next { s with link := { s.link with
          receiver := .hunting, waitHigh := true, rxdLow := some { fall := fall, restarted := false }
          errors := if s.link.receiver = .hunting then s.link.errors else min 255 (s.link.errors + 1) } } ∧
        (b = 0 → fall = s.airClock - 10) ∧
        (b.getLsbD 7 = true → fall = s.airClock - 1) ∧
        (b ≠ 0 → ∃ i < 8, b.getLsbD i = true ∧ (∀ j, i < j → b.getLsbD j = false) ∧
          fall = s.airClock - 10 + BitVec.ofNat 32 (i + 2))) ∧
  (∀ s : State, Running s →
      (∀ t0, unfinishedSince s.link.receiver = some t0 → 3000 ≤ (s.airClock - t0).toNat →
        exec .frameTimeout s = .next
          { s with link := { s.link with receiver := .hunting, errors := min 255 (s.link.errors + 1) } }) ∧
      (∀ w, s.link.rxdLow = some w → 1000 ≤ (s.airClock - w.fall).toNat →
        exec .rxdLowTimeout s = .next { s with link := { s.link with
          receiver := .hunting, waitHigh := true
          errors := if s.link.receiver = .hunting then s.link.errors else min 255 (s.link.errors + 1) } }) ∧
      exec .rxdReturnsHigh s = .next { s with link := { s.link with waitHigh := false, rxdLow := none } })

/-- A frame whose CRC byte has been taken is judged, and the receiver hunts again. With the restart mark none, a good
frame of a request has the effect of that request as a command; a CRC that differs is answered REJECT BAD_CRC with one link
error, and one in all when the reply queue is full; and a kind that Table 10-3 does not name is answered REJECT
UNKNOWN_KIND, or dropped with one link error when the reply queue is full (R186, R182, R183, R188). -/
def Obligations.CompleteFrameIsJudged : Prop :=
  ∀ (t0 : Instant) (kind ticket : Byte) (payload : List Byte) (crc : Byte) (s : State), Running s →
    s.link.receiver = .check t0 (byteOf payload.length) kind ticket payload (some crc) →
    ∀ u : State, u = { s with link := { s.link with receiver := .hunting } } →
    s.control.mark = none →
    (∀ c, crc = crc8 (byteOf payload.length :: kind :: ticket :: payload) →
      requestOf c = some { kind := kind, ticket := ticket, payload := payload } →
      exec .frameComplete s = exec c u) ∧
    (crc ≠ crc8 (byteOf payload.length :: kind :: ticket :: payload) →
      ∀ v : State, v = { u with link := { u.link with errors := min 255 (s.link.errors + 1) } } →
      (s.link.replies.length < 4 → exec .frameComplete s = .next (answered 0xFF ticket [0x1E, kind] v)) ∧
      (4 ≤ s.link.replies.length → exec .frameComplete s = .next v)) ∧
    (crc = crc8 (byteOf payload.length :: kind :: ticket :: payload) → (∀ k : RequestKind, k.code ≠ kind) →
      (s.link.replies.length < 4 → exec .frameComplete s = .next (answered 0xFF ticket [0x1F, kind] u)) ∧
      (4 ≤ s.link.replies.length →
        exec .frameComplete s = .next (pump { u with link := { u.link with
          errors := min 255 (s.link.errors + 1) } })))

/-- The end of a frame on TXD that no restart waits for: with the restart mark none, or with the mark set and the frame not
the reply of a RESTART (R174). The transmitter begins the oldest waiting reply, or else the oldest waiting report, or stays
FREE (R189); and then requests in the inbox are taken one after another while the reply queue holds 2 frames or fewer and
no restart mark is set (R187, R175). From the instant a frame begins until it ends, TXD shows its bytes without a pause, SYNC
first and CRC last (R182, R183), each as a low start bit, eight data bits, the least significant first, and a high stop bit of
1 µs each; it is high at the end of the frame, while the transmitter is FREE (R181) and in reset (R12, R177). -/
def Obligations.FrameTransmittedFreesThePlace : Prop :=
  (∀ (s : State) (x : Sending), Running s →
    s.control.mark = none ∨ ¬ (x.frame.kind = 0x86#8 ∧ x.frame.payload.head? = some 0x00#8) →
    s.link.sending = some x → Instant.atOrBefore x.endsAt s.airClock = true →
    (∀ f rest, s.link.replies = f :: rest → exec .frameTransmitted s = .next (serveInbox
      { s with link := { s.link with
        replies := rest
        sending := some { frame := f, endsAt := s.airClock + BitVec.ofNat 32 (10 * (f.payload.length + 5)) } } })) ∧
    (∀ f rest, s.link.replies = [] → s.link.reports = f :: rest → exec .frameTransmitted s = .next (serveInbox
      { s with link := { s.link with
        reports := rest
        sending := some { frame := f, endsAt := s.airClock + BitVec.ofNat 32 (10 * (f.payload.length + 5)) } } })) ∧
    (s.link.replies = [] → s.link.reports = [] → exec .frameTransmitted s = .next (serveInbox
      { s with link := { s.link with sending := none } }))) ∧
  (∀ s : State, s.link.inbox = [] → serveInbox s = s) ∧
  (∀ s : State, s.control.mark ≠ none ∨ 3 ≤ s.link.replies.length → serveInbox s = s) ∧
  (∀ (s : State) (f : Frame) (rest : List Frame) (k : RequestKind), s.control.mark = none →
    s.link.replies.length ≤ 2 → s.link.inbox = f :: rest → f.kind = k.code →
    serveInbox s = serveInbox (answered (f.kind + 0x80) f.ticket
      (serveKind k f.payload { s with link := { s.link with inbox := rest } }).2
      (serveKind k f.payload { s with link := { s.link with inbox := rest } }).1)) ∧
  (∀ (s : State) (f : Frame) (began : Instant), Running s → f.payload.length ≤ 240 →
    s.link.sending = some { frame := f, endsAt := began + BitVec.ofNat 32 (10 * (f.payload.length + 5)) } →
    ∀ covered : List Byte, covered = byteOf f.payload.length :: f.kind :: f.ticket :: f.payload →
    (∀ (i : Nat) (b : Byte), (0xA5#8 :: covered ++ [crc8 covered])[i]? = some b →
      (s.airClock = began + BitVec.ofNat 32 (10 * i) → s.txd = false) ∧
      (∀ k, k < 8 → s.airClock = began + BitVec.ofNat 32 (10 * i + 1 + k) → s.txd = b.getLsbD k) ∧
      (s.airClock = began + BitVec.ofNat 32 (10 * i + 9) → s.txd = true)) ∧
    (s.airClock = began + BitVec.ofNat 32 (10 * (f.payload.length + 5)) → s.txd = true)) ∧
  (∀ s : State, s.link.sending = none → s.txd = true) ∧
  (∀ s : State, s.control.hold ≠ none → s.txd = true)

/-! ### Events of the sense receiver (chapter 2) -/

/-- TXON going high makes blanking active: observed since becomes none, a run is discarded and the detector is QUIET. A
burst in progress is cut: with below count 0 it ends now and is truncated, and otherwise it ends as its last reading at or
above the threshold had it; its record goes to the burst assembler. Beyond the held record the receiver keeps everything
else, and what a delivered record brings is the frame of a delivery (R20, R21, R23). With blanking active already the tail
in progress is given up. -/
def Obligations.BlankingCutsWhatIsObserved : Prop :=
  ∀ s : State, Running s →
    (s.sense.blanking ≠ .inactive →
      exec .txonRise s
        = .next (pump (reform { s with sense := { s.sense with blanking := .active none } }))) ∧
    (s.sense.blanking = .inactive →
      ∀ u : State, u = { s with sense := { s.sense with
          blanking := .active none, observedSince := none
          detector := .quiet { count := 0, first := 0, code := .openAir } } } →
      (∃ t, exec .txonRise s = .next (pump (reform t)) ∧ DeliveryStep u t) ∧
      (∀ run, s.sense.detector = .quiet run →
        exec .txonRise s = .next (pump (reform (sweepPending (releaseOverdue u))))) ∧
      (∀ below b, s.sense.detector = .inBurst below b → ∀ finish : Instant,
        finish = (if below = 0 then s.airClock else b.last + 4) →
        exec .txonRise s = .next (pump (reform (sweepPending (releaseOverdue (assemble
          { channel := s.sense.tuned.getD 0, start := b.start, finish := finish
            duration := (finish - b.start).toNat, structured := b.structured
            truncated := decide (below = 0) || b.cutAtStart, cutAtStart := b.cutAtStart, long := false
            code := b.code } u)))))))

/-- The tail of the length in use runs from TXON going low, a tail of 0 µs ending blanking at once (R20). Where blanking
ends with the receiver SETTLED, and where settling ends, detection restarts with the fresh mark set and the code shown
now noted (R13, R17, R27), and observation begins, unless settling ends while blanking is active (R20, R29). Observed since
is moved forward to an age of 600 s when it is older (R5). -/
def Obligations.ObservationBegins : Prop :=
  ∀ (s : State) (restarted : Sense → Sense), Running s →
    (∀ x : Sense, restarted x = { x with
      detector := .quiet { count := 0, first := 0, code := .openAir }, fresh := true
      restartPoint := s.airClock, restartCode := s.planner.lines }) →
    ∀ clear : Sense, clear = { s.sense with blanking := .inactive } →
    ∀ ended : State, ended = { s with sense :=
        if s.sense.tuning = .settled then (restarted { clear with observedSince := some s.airClock }) else clear } →
    (s.sense.blanking = .active none →
      (s.sense.settings.tail = 0 → exec .txonFall s = .next ended) ∧
      (s.sense.settings.tail ≠ 0 → exec .txonFall s = .next { s with sense := { s.sense with
        blanking := .active (some (s.airClock + BitVec.ofNat 32 s.sense.settings.tail)) } })) ∧
    (s.sense.blanking ≠ .active none → exec .txonFall s = .next s) ∧
    (∀ e, s.sense.blanking = .active (some e) → Instant.atOrBefore e s.airClock = true →
      exec .blankingEnd s = .next ended) ∧
    (∀ e, s.sense.tuning = .settling e → Instant.atOrBefore e s.airClock = true →
      exec .settlingEnd s = .next { s with sense := restarted { s.sense with
        tuning := .settled
        observedSince := if s.sense.blanking = .inactive then some s.airClock else s.sense.observedSince } }) ∧
    (∀ o, s.sense.observedSince = some o → 600000000 < (s.airClock - o).toNat →
      exec .observedSinceAdvance s = .next { s with sense := { s.sense with
        observedSince := some (s.airClock - 600000000) } })

/-- A reading taken in QUIET, 4 µs after its instant, while the receiver has observed since that instant without a restart
point (R15, R17; that the cut of a long burst inside those 4 µs drops the reading is the model's reading of the spec,
DEDUCED, log 41, and the premise on the restart point leaves such a reading out): one below the threshold ends the run and
clears the fresh mark; one at or above it counts in the run; and the fifth qualifies a burst (R16), cut at start when the
fresh mark is set (R17), and otherwise begun at the first reading of the run and structured when detection is on and finds
a preamble (R19). -/
def Obligations.ReadingsInQuiet : Prop :=
  ∀ (s : State) (o : Instant) (run : Run) (level : Int) (preamble : Bool), Running s →
    s.airClock.toNat % 4 = 0 → s.sense.readingTaken = false → s.sense.tuning = .settled →
    s.sense.blanking = .inactive → s.sense.observedSince = some o →
    Instant.atOrBefore o (s.airClock - 4) = true →
    Instant.atOrBefore s.sense.restartPoint (s.airClock - 4) = true → s.sense.detector = .quiet run →
    ∀ taken : Bool → Detector → Host.Outcome State Fault Refusal,
      (∀ fresh d, taken fresh d = .next (pump (reform (sweepPending (releaseOverdue
        { s with sense := { s.sense with readingTaken := true, fresh := fresh, detector := d } }))))) →
    (max (-100) (min 0 level) < s.sense.settings.threshold →
      exec (.energyReading level preamble) s = taken false (.quiet { count := 0, first := 0, code := .openAir })) ∧
    (s.sense.settings.threshold ≤ max (-100) (min 0 level) →
      (run.count = 0 → exec (.energyReading level preamble) s = taken s.sense.fresh
        (.quiet { count := 1, first := s.airClock - 4, code := s.sense.readingCode })) ∧
      (1 ≤ run.count → run.count ≤ 3 → exec (.energyReading level preamble) s = taken s.sense.fresh
        (.quiet { run with count := run.count + 1 })) ∧
      (4 ≤ run.count → exec (.energyReading level preamble) s = taken false (.inBurst 0
        (if s.sense.fresh then
          { start := s.sense.restartPoint, last := s.airClock - 4, structured := false, cutAtStart := true
            code := s.sense.restartCode }
        else
          { start := run.first, last := s.airClock - 4
            structured := s.sense.settings.structuredOn && preamble, cutAtStart := false, code := run.code }))))

/-- A reading taken in IN_BURST: at or above the threshold it becomes the last such reading; below, it counts; and the
12th consecutive one below ends the burst, 4 µs after the last reading at or above the threshold, and the record goes to
the burst assembler (R18, R23). At 30,000 µs from its start a burst whose latest reading was at or above the threshold is
cut, long and truncated, at a restart point (R22). One with a below count of 1 to 11 then is not cut, and a later reading
at or above the threshold continues it beyond 30,000 µs (R18; log 39). The premise on the restart point leaves out a
reading with a restart point inside its 4 µs, which the model drops at the cut of a long burst too (log 41). -/
def Obligations.ReadingsInBurst : Prop :=
  ∀ (s : State) (below : Nat) (b : Burst), Running s → s.sense.detector = .inBurst below b →
    (∀ (o : Instant) (level : Int) (preamble : Bool), s.airClock.toNat % 4 = 0 → s.sense.readingTaken = false →
      s.sense.tuning = .settled → s.sense.blanking = .inactive → s.sense.observedSince = some o →
      Instant.atOrBefore o (s.airClock - 4) = true →
      Instant.atOrBefore s.sense.restartPoint (s.airClock - 4) = true →
      ∀ taken : Detector → State,
        (∀ d, taken d = { s with sense := { s.sense with readingTaken := true, detector := d } }) →
      (s.sense.settings.threshold ≤ max (-100) (min 0 level) →
        exec (.energyReading level preamble) s = .next (pump (reform (sweepPending (releaseOverdue
          (taken (.inBurst 0 { b with last := s.airClock - 4 }))))))) ∧
      (max (-100) (min 0 level) < s.sense.settings.threshold →
        (below < 11 → exec (.energyReading level preamble) s = .next (pump (reform (sweepPending (releaseOverdue
          (taken (.inBurst (below + 1) b))))))) ∧
        (11 ≤ below → exec (.energyReading level preamble) s = .next (pump (reform (sweepPending (releaseOverdue
          (assemble
            { channel := s.sense.tuned.getD 0, start := b.start, finish := b.last + 4
              duration := (b.last + 4 - b.start).toNat, structured := b.structured, truncated := b.cutAtStart
              cutAtStart := b.cutAtStart, long := false, code := b.code }
            (taken (.quiet { count := 0, first := 0, code := .openAir })))))))))) ∧
    (below = 0 → (s.airClock - b.start).toNat = 30000 →
      exec .longBurstCut s = .next (pump (reform (sweepPending (releaseOverdue (assemble
        { channel := s.sense.tuned.getD 0, start := b.start, finish := b.start + 30000, duration := 30000
          structured := b.structured, truncated := true, cutAtStart := b.cutAtStart, long := true, code := b.code }
        { s with sense := { s.sense with
          detector := .quiet { count := 0, first := 0, code := .openAir }, fresh := true
          restartPoint := s.airClock, restartCode := s.planner.lines } })))))) ∧
    (0 < below → exec .longBurstCut s = .next s)

/-- The burst assembler releases a structured or a long record at once; it holds another with its gap end instant, or
releases it at once when that instant has passed; and a merge partner of the held record is joined with it in one record,
which then is held in the same way (R19, R23, R24, R25, R27). A delivered record goes to the tracking unit, then with its
outcome to the escalation unit, and is counted in the current dwell; while a survey dwells the tracker it was associated
with joins the survey's list, once (R28, R45, R54). The tracking unit associates the record with the best match; else a
structured record may anchor a beacon and an unstructured one takes the candidate test; then the pending rises are settled,
by rising id (log 34), and one notice for all the changes brings a plan change (R60, R73, R84; log 12). -/
def Obligations.AssemblerHoldsMergesOrReleases : Prop :=
  ∀ (r : BurstRecord) (s : State),
    (r.structured = true ∨ r.long = true → assemble r s = deliver r s) ∧
    (r.structured = false → r.long = false →
      (∀ m : BurstRecord,
        (s.sense.held = none ∧ m = r) ∨
        (∃ h, s.sense.held = some h ∧ Instant.atOrBefore r.start h.gapEnd = true ∧
          m = { channel := h.record.channel, start := h.record.start, finish := r.finish
                duration := (r.finish - h.record.start).toNat, structured := false
                truncated := h.record.truncated || r.truncated, cutAtStart := h.record.cutAtStart, long := false
                code := h.record.code }) →
        ∀ gapEnd : Instant, gapEnd = m.finish + BitVec.ofNat 32 s.sense.settings.mergeGap →
        (Instant.before gapEnd s.airClock = false →
          assemble r s = { s with sense := { s.sense with held := some { record := m, gapEnd := gapEnd } } }) ∧
        (Instant.before gapEnd s.airClock = true →
          assemble r s = deliver m { s with sense := { s.sense with held := none } }))) ∧
    DeliveryStep s (deliver r s) ∧
    (∀ d, s.dwells.current = some d → ∃ d', (deliver r s).dwells.current = some d' ∧
      d'.busy = d.busy + r.duration ∧
      d'.unstructuredBusy = d.unstructuredBusy + (if r.structured then 0 else r.duration) ∧
      d'.structuredCount = (if r.structured then min 65535 (d.structuredCount + 1) else d.structuredCount) ∧
      d'.unstructuredCount = (if r.structured then d.unstructuredCount else min 65535 (d.unstructuredCount + 1))) ∧
    (∀ (assoc : Option Nat) (u v : State), trackRecord r s = (u, assoc) → v = escalationTest r assoc u →
      deliver r s = { v with dwells := { v.dwells with
        current := v.dwells.current.map (fun d => { d with
          busy := d.busy + r.duration
          unstructuredBusy := d.unstructuredBusy + (if r.structured then 0 else r.duration)
          structuredCount := if r.structured then min 65535 (d.structuredCount + 1) else d.structuredCount
          unstructuredCount := if r.structured then d.unstructuredCount else min 65535 (d.unstructuredCount + 1) })
        survey := { v.dwells.survey with
          trackers := v.dwells.survey.trackers ++
            (match assoc with
              | some id =>
                if v.dwells.survey.phase = .dwelling ∧ id ∉ v.dwells.survey.trackers then [id] else []
              | none => []) } } }) ∧
    (∀ (out : Noticed) (assoc : Option Nat) (settled : Noticed),
      (∀ id, bestMatch s r trackerIds = some id → out = associate id r s ∧ assoc = some id) →
      (bestMatch s r trackerIds = none → r.structured = true →
        out = ((tryAnchor r s).1, false) ∧ assoc = (tryAnchor r s).2) →
      (bestMatch s r trackerIds = none → r.structured = false → out = candidateTest r s ∧ assoc = none) →
      settled = (List.range 12).foldl (settleByRecord r assoc) out →
      trackRecord r s = (if settled.2 then planChange settled.1 else settled.1, assoc))

/-- The held record is released at its gap end instant, unless a burst in progress has started, or a run in progress has
its first reading, at or before it; and at 30,000 µs from its start while its merge partner is in progress (R24). That it
is also released when its partner qualifies with the span already above 30,000 µs is the model's choice (log 35). -/
def Obligations.HeldRecordReleased : Prop :=
  ∀ (s : State) (h : HeldRecord), Running s → s.sense.held = some h →
    ∀ released : Host.Outcome State Fault Refusal,
      released = .next (pump (reform (sweepPending (deliver h.record
        { s with sense := { s.sense with held := none } })))) →
    (Instant.atOrBefore h.gapEnd s.airClock = true →
      (∀ below b, s.sense.detector = .inBurst below b → Instant.atOrBefore b.start h.gapEnd = false) →
      (∀ run, s.sense.detector = .quiet run → 0 < run.count → Instant.atOrBefore run.first h.gapEnd = false) →
      exec .gapEndRelease s = released) ∧
    (∀ run, s.sense.detector = .quiet run → 0 < run.count → Instant.atOrBefore run.first h.gapEnd = true →
      exec .gapEndRelease s = .next s) ∧
    (∀ below b, s.sense.detector = .inBurst below b → b.structured = false →
      Instant.atOrBefore b.start h.gapEnd = true →
      exec .gapEndRelease s = .next s ∧
      (30000 ≤ (s.airClock - h.record.start).toNat → exec .spanLimitRelease s = released))

/-! ### Dwell ends and the escalation unit (chapters 3 and 8) -/

/-- At its planned end a dwell is closed and the next one starts (R38, R43). The record of its channel is updated when
10,000 µs or more were observed (R46), with the dwell as the records released at its end leave it. A survey dwell completes
its survey: a SURVEY_DONE report with the load of that one dwell and the survey's list, and phase NONE (R55). At the end of
a scan cycle (R40, R41) the advice test finds the channel of the effective list of lowest score, and counts, reports or
re-arms by the margin in use (R50). A waiting survey comes next (R53); then an operating dwell when a pending plan comes
into use (R37); and otherwise the sequence of R39: the next entry of the scan list that is not O, until the group is full
or the list is done. -/
def Obligations.DwellEndBringsTheNextDwell : Prop :=
  ∀ (s : State) (d : Dwell) (o : Nat), Running s → s.dwells.current = some d →
    Instant.atOrBefore d.plannedEnd s.airClock = true → s.dwells.operating = some o →
    ∀ next : DwellKind → Nat → Nat → Dwell,
      (∀ kind channel length, next kind channel length =
        { kind := kind, channel := channel, start := s.airClock
          plannedEnd := s.airClock + BitVec.ofNat 32 length, busy := 0, unstructuredBusy := 0, observed := 0
          structuredCount := 0, unstructuredCount := 0 }) →
    ∀ (plan : ScanPlan) (size : Nat), plan = s.dwells.pendingPlan.getD s.dwells.plan →
      size = (match plan.interleave with | .alternate => 1 | .sparse => 3) →
    ∃ (u t : State) (d' : Dwell), exec .dwellEnd s = .next (pump (reform t)) ∧ AirStep s u ∧ AirStep s t ∧
      d'.uncounted = d.uncounted ∧ u.dwells.current = some d' ∧ u.dwells.advice = s.dwells.advice ∧
      u.dwells.survey = { s.dwells.survey with trackers := u.dwells.survey.trackers } ∧
      u.dwells.records = t.dwells.records ∧ t.tracking = u.tracking ∧ t.planner = u.planner ∧
      t.escalation = u.escalation ∧ t.control = u.control ∧
      t.sense.held = none ∧ t.sense.tuned = t.dwells.current.map Dwell.channel ∧
      (s.sense.held = none → (∀ below b, s.sense.detector ≠ .inBurst below b) →
        (∀ id < 12, (s.tracker id).pendingRise = none) →
        d' = d ∧ u.tracking = s.tracking ∧ u.planner = s.planner ∧ u.escalation = s.escalation ∧
          u.control = s.control ∧ u.link = s.link ∧ u.dwells.survey = s.dwells.survey) ∧
      t.dwells.records =
        (if 10000 ≤ d.observed then s.dwells.records.set (d.channel - 1)
          { visited := true
            load := (max 0 (min 1000 (((s.channelRecord d.channel).load : Int) +
              roundAway (((min 1000 (1000 * d'.busy / d.observed) : Nat) : Int) - (s.channelRecord d.channel).load) 8))).toNat
            unstructuredLoad := (max 0 (min 1000 (((s.channelRecord d.channel).unstructuredLoad : Int) +
              roundAway (((min 1000 (1000 * d'.unstructuredBusy / d.observed) : Nat) : Int) -
                (s.channelRecord d.channel).unstructuredLoad) 8))).toNat
            lastVisitEnd := s.airClock
            visits := min 65535 ((s.channelRecord d.channel).visits + 1) }
        else s.dwells.records) ∧
      t.dwells.plan = plan ∧ t.dwells.pendingPlan = none ∧
      (d.kind = .survey → t.dwells.survey.phase = .none ∧ t.dwells.advice = s.dwells.advice ∧
        t.link = u.link.hand .surveyDone
          ([0x00, byteOf s.dwells.survey.channel] ++
            le16n (if 10000 ≤ d.observed then min 1000 (1000 * d'.busy / d.observed) else 65535) ++
            le16n d'.structuredCount ++ le16n d'.unstructuredCount ++
            byteOf u.dwells.survey.trackers.length :: u.dwells.survey.trackers.map byteOf)) ∧
      (∀ (cycleEnds : Prop) (points : Nat → Nat) (passes : Nat → Prop),
        (cycleEnds ↔ (d.kind = .operating ∧ ∀ c ∈ s.dwells.plan.channels, c = o) ∨
          (d.kind = .offChannel ∧
            ∀ i c, s.dwells.pointer ≤ i → s.dwells.plan.channels[i]? = some c → c = o)) →
        (∀ c, points c = if (u.channelRecord c).visited then
            min 2000 ((u.channelRecord c).load +
              ((u.tracking.entries.filter (fun e => decide (e.kind = .oven ∧ (e.state = .locked ∨ e.state = .dormant) ∧
                  ∃ x ∈ e.span, x ≤ c + 3 ∧ c ≤ x + 3))).map (fun e =>
                min 1000 ((16000 * (e.onDuration + 2 * u.tracking.settings.guardBase) + e.period - 1) / e.period))).sum)
          else 2000) →
        (∀ b, passes b ↔ b ∈ s.dwells.plan.channels ∧ b ≠ o ∧
          (∀ c ∈ s.dwells.plan.channels, c ≠ o → points b < points c ∨ (points b = points c ∧ b ≤ c)) ∧
          s.dwells.plan.margin + points b ≤ points o) →
        (d.kind ≠ .survey → ¬ cycleEnds → t.link = u.link ∧ t.dwells.advice = s.dwells.advice) ∧
        (cycleEnds →
          (∀ b, passes b →
            (s.dwells.advice.armed = true → s.dwells.advice.passes < 2 → t.link = u.link ∧
              t.dwells.advice = { armed := true, passes := s.dwells.advice.passes + 1 }) ∧
            (s.dwells.advice.armed = true → 2 ≤ s.dwells.advice.passes →
              t.link = u.link.hand .advice ([byteOf o, byteOf b] ++ le16n (points o) ++ le16n (points b)) ∧
              t.dwells.advice = { armed := false, passes := 0 }) ∧
            (s.dwells.advice.armed = false → t.link = u.link ∧ t.dwells.advice = s.dwells.advice)) ∧
          ((∀ b, ¬ passes b) → t.link = u.link ∧ t.dwells.advice = { armed := true, passes := 0 }))) ∧
      (d.kind ≠ .survey → s.dwells.survey.phase = .waiting →
        t.dwells.current = some (next .survey s.dwells.survey.channel s.dwells.survey.duration) ∧
        t.dwells.survey.phase = .dwelling) ∧
      (s.dwells.survey.phase ≠ .waiting →
        (s.dwells.pendingPlan.isSome = true → t.dwells.current = some (next .operating o plan.operatingLength)) ∧
        (s.dwells.pendingPlan = none →
          ((∀ c ∈ plan.channels, c = o) → d.kind = .operating →
            t.dwells.current = some (next .operating o plan.operatingLength)) ∧
          ((∀ i c, s.dwells.pointer ≤ i → plan.channels[i]? = some c → c = o) → d.kind = .offChannel →
            t.dwells.current = some (next .operating o plan.operatingLength) ∧ t.dwells.pointer = 0) ∧
          (∀ (place c : Nat), s.dwells.pointer ≤ place → plan.channels[place]? = some c → c ≠ o →
            (∀ i c', s.dwells.pointer ≤ i → i < place → plan.channels[i]? = some c' → c' = o) →
            (s.dwells.forceOperating = true ∨ size ≤ s.dwells.group →
              t.dwells.current = some (next .operating o plan.operatingLength) ∧ t.dwells.group = 0 ∧
              t.dwells.pointer = s.dwells.pointer) ∧
            (s.dwells.forceOperating = false → s.dwells.group < size →
              t.dwells.current = some (next .offChannel c plan.offChannelLength) ∧
              t.dwells.group = s.dwells.group + 1 ∧ t.dwells.pointer = place + 1))))

/-- The score drains by 1 at every whole multiple of 250,000 µs (R153; that a drain is taken once at its instant is log
16). A delivered record is a surprise by the seven conditions of R150; a surprise adds 1 to the score, held at 15, and at
the threshold an escalation sets the score to 0, applies the policy, fills or counts on the fault record, sets ESCALATED and
hands over its ESCALATION report (R152, R155 to R160). REPORT does nothing more; RELEARN makes every LOCKED oven ACQUIRING,
by id, with a plan change when there was one, a pending rise being tested again (R156; log 13); FALLBACK and HOLD change the
mode with the effects of R170, and a MODE report follows (R157, R172). Replies that carry a mode and were formed at this
instant are given the mode in force, the latest first and the one on TXD last (R173; log 33). -/
def Obligations.ScoreDrainsAndSurprisesEscalate : Prop :=
  (∀ s : State, Running s → s.airClock.toNat % 250000 = 0 → s.escalation.drained = false →
    exec .scoreDrain s = .next { s with escalation :=
      { s.escalation with score := s.escalation.score - 1, drained := true } }) ∧
  (∀ (r : BurstRecord) (assoc : Option Nat) (s : State) (surprise : Prop),
    (surprise ↔ r.structured = false ∧ s.dwells.operating = some r.channel ∧ assoc = none ∧ r.cutAtStart = false ∧
      200 ≤ r.duration ∧ r.code ≠ .shut ∧ (s.control.mode = .active ∨ s.control.mode = .fallback)) →
    ∀ n : Nat, n = min 15 (s.escalation.score + 1) →
    (¬ surprise → escalationTest r assoc s = s) ∧
    (surprise → n < s.escalation.threshold →
      escalationTest r assoc s = { s with escalation := { s.escalation with score := n } }) ∧
    (surprise → s.escalation.threshold ≤ n → ∀ (new : Mode) (action : ActionTaken) (demoted : Tracker → Tracker),
      new = (match s.escalation.policy with
        | .report => s.control.mode
        | .relearn => s.control.mode
        | .fallback => if s.control.mode = .active ∧ s.planner.template.isSome = true then .fallback else .hold
        | .hold => .hold) →
      action = (match s.escalation.policy with
        | .report => .none
        | .relearn => .relearn
        | .fallback => if new = .fallback then .fallback else .hold
        | .hold => .hold) →
      (∀ x, demoted x = { x with
        state := .acquiring, run := 0, misses := 0
        pendingRise := x.pendingRise.map (fun p =>
          { rise := p.rise, halfWidth := 2000
            retest := Instant.atOrBefore s.airClock (BitVec.ofNat 32 ((p.rise.toNat + 15) / 16) + 2000) }) }) →
      (∃ t, escalationTest r assoc s = t ∧ AirStep s t ∧ t.control.mode = new ∧ t.link.flags.escalated = true ∧
        t.escalation = { s.escalation with
          score := 0
          fault := some (match s.escalation.fault with
            | none =>
              { instant := s.airClock, channel := r.channel, modeBefore := s.control.mode
                policy := s.escalation.policy, action := action, surpriseStart := r.start
                surpriseDuration := r.duration, further := 0 }
            | some f => { f with further := min 255 (f.further + 1) }) } ∧
        (∀ id < 12, t.tracker id =
          if s.escalation.policy = .relearn ∧ (s.tracker id).kind = .oven ∧ (s.tracker id).state = .locked then
            demoted (s.tracker id)
          else s.tracker id)) ∧
      (∀ (u changed shown : State) (finish report : State → State),
        u = { s with escalation := { s.escalation with score := 0 } } →
        changed = { u with control := { u.control with mode := new } } →
        shown = { changed with planner := { changed.planner with lines := formedCode changed } } →
        (∀ v, finish v = { v with
          escalation := { v.escalation with
            fault := some (match s.escalation.fault with
              | none =>
                { instant := s.airClock, channel := r.channel, modeBefore := s.control.mode
                  policy := s.escalation.policy, action := action, surpriseStart := r.start
                  surpriseDuration := r.duration, further := 0 }
              | some f => { f with further := min 255 (f.further + 1) }) }
          link := Link.hand { v.link with flags := { v.link.flags with escalated := true } } .escalation
            ([s.escalation.policy.code, action.code, byteOf r.channel] ++ le32 s.airClock) }) →
        (∀ v, report v = { v with
          link := (v.link.amendModes s.control.modeReplies new).hand .mode
            ([s.control.mode.code, new.code, 0] ++ le32 s.airClock) }) →
        (s.escalation.policy = .report → escalationTest r assoc s = finish u) ∧
        (s.escalation.policy = .relearn → s.tracking.entries.length = 12 →
          ∀ v : State, v = { u with
              tracking := { s.tracking with
                entries := s.tracking.entries.map (fun x =>
                  if x.kind = .oven ∧ x.state = .locked then demoted x else x) }
              link := (List.range 12).foldl (fun l id =>
                if (s.tracker id).kind = .oven ∧ (s.tracker id).state = .locked then
                  l.hand .tracker [byteOf id, 0, 3, 2, 9]
                else l) s.link } →
            ((∃ x ∈ s.tracking.entries, x.kind = .oven ∧ x.state = .locked) →
              escalationTest r assoc s = finish (planChange v)) ∧
            ((∀ x ∈ s.tracking.entries, ¬ (x.kind = .oven ∧ x.state = .locked)) →
              escalationTest r assoc s = finish v)) ∧
        (s.escalation.policy = .fallback ∨ s.escalation.policy = .hold →
          (new = .fallback → escalationTest r assoc s = finish (report (planChange shown))) ∧
          (new = .hold → escalationTest r assoc s = finish (report { shown with
            planner := { shown.planner with
              queue := [], series := s.planner.series.map (fun x => { x with state := .suspended, retry := none }) }
            link := s.planner.queue.foldl (fun l e => l.hand .displaced
              ([e.lane.code, e.origin.code, s.entryTag e.origin] ++ le32 e.start ++ [1])) s.link })))))) ∧
  (∀ (l : Link) (n : Nat) (m : Mode) (carries : Frame → Bool) (given : Frame → Frame),
    (∀ f, carries f = decide ((f.kind = 0x8A#8 ∨ f.kind = 0x8B#8) ∧ f.payload.length = 2)) →
    (∀ f, given f = { f with payload := [0x00, m.code] }) →
    l.amendModes 0 m = l ∧
    (∀ (fs : List Frame) (f : Frame) (k : Nat), l.replies = fs ++ [f] → k = (if carries f then n - 1 else n) →
      0 < n → l.amendModes n m = { Link.amendModes { l with replies := fs } k m with
        replies := (Link.amendModes { l with replies := fs } k m).replies ++ [if carries f then given f else f] }) ∧
    (l.replies = [] → 0 < n → l.amendModes n m = { l with
      sending := l.sending.map (fun x => if carries x.frame then { x with frame := given x.frame } else x) }))

/-! ### Events of the tracking unit (chapters 4 and 5) -/

/-- The test of an entry's next rise E at ceil(E/16) + W (R72). Unobserved (R30) it has no effect but that the following
rise is next; observed with something held in its capture stretch and no rise pending it becomes the pending rise, whose
half-width is kept with it (log 13); and otherwise it is a miss, which adds 1 to the misses, held at 31, and demotes or
frees the entry by its state and kind (R74). A pending rise that RELEARN has kept is tested again at its ACQUIRING test
instant, before the next rise (R156; log 13). A pending rise is settled by a delivered record whose start lies in its capture
stretch, with a miss unless the record was associated with the entry, and with a miss when nothing held starts there any
more (R73); one notice for all the changes of a sweep brings a plan change (R84; log 12). -/
def Obligations.PredictedRiseDecided : Prop :=
  (∀ (s : State) (id : Nat) (x : Tracker) (e : Sixteenth) (w : Nat), Running s → id < s.tracking.entries.length →
    x = s.tracker id → x.state = .acquiring ∨ x.state = .locked → x.kind = .oven ∨ x.anchored = true →
    e = x.anchor + BitVec.ofNat 36 (x.nextRise * x.period) →
    w = (match x.kind with
      | .oven => if x.state = .locked then 400 else 2000
      | .beacon => if x.state = .locked then 200 else 1000) →
    ∀ (retest : Prop) (observed : Sixteenth → Prop),
      (retest ↔ ∃ p, x.pendingRise = some p ∧ p.retest = true ∧
        Instant.atOrBefore (BitVec.ofNat 32 ((p.rise.toNat + 15) / 16) + BitVec.ofNat 32 p.halfWidth) s.airClock = true) →
      (∀ rise, observed rise ↔
        (∃ c, s.sense.tuned = some c ∧ (x.kind = .oven → c ∈ x.span) ∧ (x.kind = .beacon → x.channel = c)) ∧
        ∃ o, s.sense.observedSince = some o ∧
          Instant.atOrBefore o (BitVec.ofNat 32 (rise.toNat / 16) - BitVec.ofNat 32 w) = true) →
    ∀ (set : Tracker → State) (m : Nat), m = min 31 (x.misses + 1) →
      (∀ y, set y = { s with tracking := { s.tracking with entries := s.tracking.entries.set id y } }) →
    (¬ retest →
      Instant.atOrBefore (BitVec.ofNat 32 ((e.toNat + 15) / 16) + BitVec.ofNat 32 w) s.airClock = true →
      (¬ observed e →
        exec (.riseTest id) s = .next (pump (reform (set { x with nextRise := x.nextRise + 1 })))) ∧
      (observed e → x.pendingRise = none → (∃ i ∈ heldStarts s.sense, inCapture e w i = true) →
        exec (.riseTest id) s = .next (pump (reform (set { x with
          nextRise := x.nextRise + 1, pendingRise := some { rise := e, halfWidth := w, retest := false } })))) ∧
      (observed e → x.pendingRise ≠ none ∨ (∀ i ∈ heldStarts s.sense, inCapture e w i = false) →
        ((x.state = .locked ∧ m < s.tracking.settings.missLimit) ∨ (x.state = .acquiring ∧ m < 3) →
          exec (.riseTest id) s = .next (pump (reform
            (set { x with nextRise := x.nextRise + 1, misses := m })))) ∧
        (x.state = .locked → s.tracking.settings.missLimit ≤ m →
          exec (.riseTest id) s = .next (pump (reform (planChange
            { set { x with nextRise := x.nextRise + 1, state := .dormant, misses := 0, pendingRise := none } with
              link := s.link.hand .tracker [byteOf id, x.kind.code, 3, 4, 6] })))) ∧
        (x.state = .acquiring → 3 ≤ m → x.kind = .oven →
          exec (.riseTest id) s = .next (pump (reform (planChange
            { set { kind := .oven, state := .free, rise := 0, span := [], channel := 0, anchored := false, period := 0
                    anchor := 0, onDuration := 0, run := 0, misses := 0, slips := 0, slipOverflow := false, hits := 0
                    lastHit := none, pendingRise := none, nextRise := 0 } with
              link := s.link.hand .tracker [byteOf id, 0, 2, 0, 6] })))) ∧
        (x.state = .acquiring → 3 ≤ m → x.kind = .beacon →
          exec (.riseTest id) s = .next (pump (reform
            { set { x with anchored := false, anchor := 0, run := 0, misses := 0, lastHit := none
                           pendingRise := none, nextRise := 0 } with
              link := s.link.hand .tracker [byteOf id, 1, 2, 2, 6] }))))) ∧
    (retest → ∀ p, x.pendingRise = some p → ∀ missed : Noticed, missed = miss id (set { x with pendingRise := none }) →
      (¬ observed p.rise → exec (.riseTest id) s = .next (pump (reform (set { x with pendingRise := none })))) ∧
      (observed p.rise → (∃ i ∈ heldStarts s.sense, inCapture p.rise p.halfWidth i = true) →
        exec (.riseTest id) s = .next (pump (reform
          (set { x with pendingRise := some { p with retest := false } })))) ∧
      (observed p.rise → (∀ i ∈ heldStarts s.sense, inCapture p.rise p.halfWidth i = false) →
        exec (.riseTest id) s = .next (pump (reform
          (if missed.2 then planChange missed.1 else missed.1)))))) ∧
  (∀ (e : Sixteenth) (w : Nat) (i lo hi : Instant), lo = BitVec.ofNat 32 (e.toNat / 16) - BitVec.ofNat 32 w →
    hi = BitVec.ofNat 32 ((e.toNat + 15) / 16) + BitVec.ofNat 32 w →
    (inCapture e w i = true ↔ (i - lo).toNat ≤ (hi - lo).toNat)) ∧
  (∀ (v : Sense) (i : Instant), i ∈ heldStarts v ↔
    (∃ run, v.detector = .quiet run ∧ 0 < run.count ∧ i = run.first) ∨
      (∃ below b, v.detector = .inBurst below b ∧ i = b.start) ∨ (∃ h, v.held = some h ∧ i = h.record.start)) ∧
  (∀ (s : State) (id : Nat) (x : Tracker), id < s.tracking.entries.length → x = s.tracker id →
    ∀ (set : Tracker → State) (m : Nat) (dropped : State) (missed : Noticed), m = min 31 (x.misses + 1) →
      (∀ y, set y = { s with tracking := { s.tracking with entries := s.tracking.entries.set id y } }) →
      dropped = set { x with pendingRise := none } → missed = miss id dropped →
    (x.state ≠ .locked ∨ m < s.tracking.settings.missLimit → x.state ≠ .acquiring ∨ m < 3 →
      miss id s = (set { x with misses := m }, false)) ∧
    (x.state = .locked → s.tracking.settings.missLimit ≤ m →
      miss id s = ({ set { x with state := .dormant, misses := 0, pendingRise := none } with
        link := s.link.hand .tracker [byteOf id, x.kind.code, 3, 4, 6] }, true)) ∧
    (x.state = .acquiring → 3 ≤ m → x.kind = .oven →
      miss id s = ({ set { kind := .oven, state := .free, rise := 0, span := [], channel := 0, anchored := false, period := 0
                           anchor := 0, onDuration := 0, run := 0, misses := 0, slips := 0, slipOverflow := false
                           hits := 0, lastHit := none, pendingRise := none, nextRise := 0 } with
        link := s.link.hand .tracker [byteOf id, 0, 2, 0, 6] }, true)) ∧
    (x.state = .acquiring → 3 ≤ m → x.kind = .beacon →
      miss id s = ({ set { x with anchored := false, anchor := 0, run := 0, misses := 0, lastHit := none
                                  pendingRise := none, nextRise := 0 } with
        link := s.link.hand .tracker [byteOf id, 1, 2, 2, 6] }, false)) ∧
    (∀ notice : Bool,
      (x.pendingRise = none → sweepEntry (s, notice) id = (s, notice) ∧
        ∀ r assoc, settleByRecord r assoc (s, notice) id = (s, notice)) ∧
      (∀ p, x.pendingRise = some p →
        ((∃ i ∈ heldStarts s.sense, inCapture p.rise p.halfWidth i = true) → sweepEntry (s, notice) id = (s, notice)) ∧
        ((∀ i ∈ heldStarts s.sense, inCapture p.rise p.halfWidth i = false) →
          sweepEntry (s, notice) id = (missed.1, notice || missed.2)) ∧
        (∀ (r : BurstRecord) (assoc : Option Nat),
          (inCapture p.rise p.halfWidth r.start = false → settleByRecord r assoc (s, notice) id = (s, notice)) ∧
          (inCapture p.rise p.halfWidth r.start = true →
            (assoc = some id → settleByRecord r assoc (s, notice) id = (dropped, notice)) ∧
            (assoc ≠ some id →
              settleByRecord r assoc (s, notice) id = (missed.1, notice || missed.2))))))) ∧
  (∀ (s : State) (swept : Noticed), swept = (List.range 12).foldl sweepEntry (s, false) →
    sweepPending s = if swept.2 then planChange swept.1 else swept.1)

/-- The age limits: a CANDIDATE is freed at 100,000 µs (R70); a LOCKED entry without a hit for 5,000,000 µs becomes
DORMANT, an ACQUIRING OVEN entry FREE, and an anchored ACQUIRING BEACON entry unanchored (R75); and a DORMANT OVEN entry
becomes FREE at 60 s and a DORMANT BEACON entry ACQUIRING, unanchored, at 600 s (R76). Each is reported with cause AGE, and
is a plan change where R84 says so. An entry below its limit is left alone. -/
def Obligations.AgeLimitsRetireEntries : Prop :=
  ∀ (s : State) (id : Nat) (x : Tracker), Running s → id < s.tracking.entries.length → x = s.tracker id →
    ∀ (aged : Tracker → Byte → Byte → State) (gone unanchored : Tracker),
      (∀ y old new, aged y old new = { s with
        tracking := { s.tracking with entries := s.tracking.entries.set id y }
        link := s.link.hand .tracker [byteOf id, x.kind.code, old, new, 7] }) →
      gone = { kind := .oven, state := .free, rise := 0, span := [], channel := 0, anchored := false, period := 0
               anchor := 0, onDuration := 0, run := 0, misses := 0, slips := 0, slipOverflow := false, hits := 0
               lastHit := none, pendingRise := none, nextRise := 0 } →
      unanchored = { x with state := .acquiring, anchored := false, anchor := 0, run := 0, misses := 0
                            lastHit := none, pendingRise := none, nextRise := 0 } →
    (x.state = .candidate →
      (100000 ≤ (s.airClock - x.rise).toNat →
        exec (.candidateExpiry id) s = .next (pump (reform (aged gone 1 0)))) ∧
      ((s.airClock - x.rise).toNat < 100000 → exec (.candidateExpiry id) s = .next s)) ∧
    (∀ hit, x.lastHit = some hit → x.kind = .oven ∨ x.anchored = true →
      (x.state = .locked ∨ x.state = .acquiring → (s.airClock - hit).toNat < 5000000 →
        exec (.trackerAgeLimit id) s = .next s) ∧
      (x.state = .locked → 5000000 ≤ (s.airClock - hit).toNat →
        exec (.trackerAgeLimit id) s = .next (pump (reform (planChange
          (aged { x with state := .dormant, misses := 0, pendingRise := none } 3 4))))) ∧
      (x.state = .acquiring → 5000000 ≤ (s.airClock - hit).toNat →
        (x.kind = .oven → exec (.trackerAgeLimit id) s = .next (pump (reform (planChange (aged gone 2 0))))) ∧
        (x.kind = .beacon → exec (.trackerAgeLimit id) s = .next (pump (reform (aged unanchored 2 2)))))) ∧
    (∀ hit, x.lastHit = some hit → x.state = .dormant →
      (x.kind = .oven →
        (60000000 ≤ (s.airClock - hit).toNat →
          exec (.dormantAgeLimit id) s = .next (pump (reform (aged gone 4 0)))) ∧
        ((s.airClock - hit).toNat < 60000000 → exec (.dormantAgeLimit id) s = .next s)) ∧
      (x.kind = .beacon →
        (600000000 ≤ (s.airClock - hit).toNat →
          exec (.dormantAgeLimit id) s = .next (pump (reform (planChange (aged unanchored 4 2))))) ∧
        ((s.airClock - hit).toNat < 600000000 → exec (.dormantAgeLimit id) s = .next s)))

/-- The nearest rise is the one whose residual is smallest, the earlier on a tie (R89). An entry matches a record that it
may take (R60) when the residual is at most 16 times its capture half-width, and of the matching entries the smallest
residual is chosen, the lower id on a tie (R61). With n of 0 or less the record is absorbed: the span grows, and with n of 0
an OVEN entry's on-duration is extended when the record shows a longer burst (R62, R90, R91). With n of 1 or more it is a
hit: on a LOCKED entry the anchor moves by a quarter of the residual, the period by the residual over 8n and the on-duration
by an eighth, an OVEN entry's within their ranges, and the slip test follows (R65, R92 to R97); on an ACQUIRING entry by a
half and over 4n, the run counting toward lock (R64); and a DORMANT entry is revived first (R66). Misses become 0, hits
count on, and the next rise to decide is the first whose test instant lies after now (R64, R72). A structured record that
matches nothing may anchor the lowest unanchored BEACON entry that admits it (R63). -/
def Obligations.NearestRiseAndLockedHit : Prop :=
  (∀ (x : Tracker) (start : Instant), 0 < x.period →
    x.residual start = x.offsetOf start - x.cycles start * x.period ∧
    x.nearestRise start = x.anchor + BitVec.ofInt 36 (x.cycles start * x.period) ∧
    ∀ n : Int, (x.residual start).natAbs < (x.offsetOf start - n * x.period).natAbs ∨
      ((x.residual start).natAbs = (x.offsetOf start - n * x.period).natAbs ∧ x.cycles start ≤ n)) ∧
  (∀ (s : State) (r : BurstRecord) (id : Nat), bestMatch s r trackerIds = some id ↔
    id < 12 ∧ (s.tracker id).isMatch r = true ∧ ∀ j < 12, (s.tracker j).isMatch r = true →
      ((s.tracker id).residual r.start).natAbs < ((s.tracker j).residual r.start).natAbs ∨
      (((s.tracker id).residual r.start).natAbs = ((s.tracker j).residual r.start).natAbs ∧ id ≤ j)) ∧
  (∀ (width : TrackerKind → TrackerState → Nat),
    (∀ state, width .oven state = match state with
      | .acquiring => 2000 | .locked => 400 | .dormant => 2000 | .free => 0 | .candidate => 0) →
    (∀ state, width .beacon state = match state with
      | .acquiring => 1000 | .locked => 200 | .dormant => 1000 | .free => 0 | .candidate => 0) →
    (∀ (x : Tracker) (r : BurstRecord), x.isMatch r = true ↔
      (x.state = .acquiring ∨ x.state = .locked ∨ x.state = .dormant) ∧
      (x.kind = .oven → r.structured = false ∧ 200 ≤ r.duration ∧
        ∃ d ∈ x.span, d ≤ r.channel + 3 ∧ r.channel ≤ d + 3) ∧
      (x.kind = .beacon → r.structured = true ∧ x.anchored = true ∧ x.channel = r.channel) ∧
      (x.residual r.start).natAbs ≤ 16 * width x.kind x.state) ∧
    (∀ (s : State) (r : BurstRecord) (id n : Nat) (x : Tracker) (e : Int) (first : Tracker → Nat → Prop),
      id < s.tracking.entries.length → x = s.tracker id → e = x.residual r.start →
      (∀ y k, first y k ↔ 1 ≤ k ∧ (0 < y.period → ∀ i : Nat, k ≤ i ↔ 1 ≤ i ∧
        0 < (y.anchor - BitVec.ofNat 36 (16 * s.airClock.toNat)).toInt + i * y.period + 16 * width y.kind y.state)) →
      (x.cycles r.start ≤ 0 → ∀ grown : Tracker,
        grown = { x with span := if x.kind = .beacon then x.span else spanInsert r.channel x.span } →
        ∀ extended : Prop,
          (extended ↔ x.kind = .oven ∧ x.cycles r.start = 0 ∧ r.truncated = false ∧ r.long = false ∧
            ∃ hit, x.lastHit = some hit ∧ Instant.before (hit + BitVec.ofNat 32 x.onDuration) r.finish = true) →
          (extended → ∀ hit, x.lastHit = some hit →
            associate id r s = ({ s with tracking := { s.tracking with
              entries := s.tracking.entries.set id { grown with
                onDuration := (max 2000 (min 14000
                  ((x.onDuration : Int) + roundAway (((r.finish - hit).toNat : Int) - x.onDuration) 8))).toNat } } },
              false)) ∧
          (¬ extended → associate id r s
            = ({ s with tracking := { s.tracking with entries := s.tracking.entries.set id grown } }, false))) ∧
      (x.cycles r.start = n → 1 ≤ n → ∀ (hit : Nat → Nat → Tracker),
        (∀ a p, hit a p = { x with
          anchor := x.nearestRise r.start + BitVec.ofInt 36 (roundAway e a)
          period := if x.kind = .beacon then x.period
            else (max 240000 (min 336000 ((x.period : Int) + roundAway e (p * n)))).toNat
          onDuration := if x.kind = .beacon ∨ r.truncated = true ∨ r.long = true then x.onDuration
            else (max 2000 (min 14000 ((x.onDuration : Int) + roundAway ((r.duration : Int) - x.onDuration) 8))).toNat
          span := if x.kind = .beacon then x.span else spanInsert r.channel x.span
          misses := 0, hits := min 65535 (x.hits + 1), lastHit := some r.start, pendingRise := none }) →
        (x.state = .locked →
          (e.natAbs ≤ 64 → ∃ k, first (hit 4 8) k ∧
            associate id r s = ({ s with tracking := { s.tracking with
              entries := s.tracking.entries.set id { hit 4 8 with nextRise := k } } }, false)) ∧
          (64 < e.natAbs → x.slips < 15 → ∃ k, first (hit 4 8) k ∧
            associate id r s = ({ s with tracking := { s.tracking with
              entries := s.tracking.entries.set id { hit 4 8 with slips := x.slips + 1, nextRise := k } } }, false)) ∧
          (64 < e.natAbs → 15 ≤ x.slips → ∃ k, first { hit 4 8 with state := .acquiring } k ∧
            associate id r s = ({ s with
              tracking := { s.tracking with
                entries := s.tracking.entries.set id
                  { hit 4 8 with state := .acquiring, run := 0, slips := 0, slipOverflow := true, nextRise := k } }
              link := (s.link.hand .tracker [byteOf id, x.kind.code, 3, 2, 8]).setSlipOvf }, true))) ∧
        (∀ (run : Nat → Nat) (l : Link) (revived : Bool),
          (∀ old, run old = if e.natAbs ≤ (if x.kind = .beacon then 3200 else 6400) then min 15 (old + 1) else 0) →
          ∀ old : Nat,
          (x.state = .acquiring ∧ l = s.link ∧ revived = false ∧ old = x.run) ∨
            (x.state = .dormant ∧ l = s.link.hand .tracker [byteOf id, x.kind.code, 4, 2, 5] ∧ revived = true ∧
              old = s.tracking.settings.lockRun - 3) →
          (run old < s.tracking.settings.lockRun → ∃ k, first { hit 2 4 with state := .acquiring } k ∧
            associate id r s = ({ s with
              tracking := { s.tracking with
                entries := s.tracking.entries.set id
                  { hit 2 4 with state := .acquiring, run := run old, nextRise := k } }
              link := l }, revived)) ∧
          (s.tracking.settings.lockRun ≤ run old → ∃ k, first { hit 2 4 with state := .locked } k ∧
            associate id r s = ({ s with
              tracking := { s.tracking with
                entries := s.tracking.entries.set id
                  { hit 2 4 with state := .locked, run := run old, nextRise := k } }
              link := l.hand .tracker [byteOf id, x.kind.code, 2, 3, 4] }, true)))) ∧
      (∀ anchorable : Nat → Prop,
        (∀ j, anchorable j ↔ j < 12 ∧ (s.tracker j).kind = .beacon ∧ (s.tracker j).state = .acquiring ∧
          (s.tracker j).anchored = false ∧ (s.tracker j).channel = r.channel ∧
          r.duration ≤ (s.tracker j).onDuration + 200) →
        ((∀ j, ¬ anchorable j) → tryAnchor r s = (s, none)) ∧
        (anchorable id → (∀ j, anchorable j → id ≤ j) → ∀ y : Tracker, y = { x with
            anchored := true, anchor := BitVec.ofNat 36 (16 * r.start.toNat), run := 1, misses := 0
            hits := min 65535 (x.hits + 1), lastHit := some r.start } →
          ∃ k, first y k ∧ tryAnchor r s = ({ s with
            tracking := { s.tracking with entries := s.tracking.entries.set id { y with nextRise := k } }
            link := s.link.hand .tracker [byteOf id, 1, 2, 2, 3] }, some id)))))

/-! ### Events of the window planner (chapters 5 to 7) -/

/-- The code on the lines by the mode (R116): in ACTIVE and FALLBACK the lane of the open entry, or else the action of the
first rule whose test is true, and OPEN when none is (R111). WIN1 and WIN0 show it by Table 1-7 (R11). A window edge and a
step of a guard leave the lines at that code (R117, R100; logs 36 and 37). The template's anchor is advanced by the whole
periods of 300 s when its age reaches 600 s (R105); an anchor still to come has no age (R4). -/
def Obligations.LinesShowTheFormedCode : Prop :=
  (∀ s : State, Running s → ∀ shown : State,
    shown = { s with planner := { s.planner with lines := formedCode s } } →
    exec .windowEdge s = .next shown ∧
    (∀ (id : Nat) (hit : Instant), id < 12 → (s.tracker id).kind = .oven → (s.tracker id).state = .locked →
      (s.tracker id).lastHit = some hit → 0 < (s.airClock - hit).toNat → 100000 ∣ (s.airClock - hit).toNat →
      exec (.guardStep id) s = .next shown) ∧
    (∀ x, s.planner.template = some x →
      ∀ old : Prop, (old ↔ Instant.atOrBefore (BitVec.ofNat 32 (x.anchor.toNat / 16)) s.airClock = true ∧
        600000000 ≤ (s.airClock - BitVec.ofNat 32 (x.anchor.toNat / 16)).toNat) →
      (old → exec .templateAnchorAdvance s = .next { s with planner := { s.planner with
        template := some
          { x with anchor := x.anchor + BitVec.ofNat 36 (4800000000 / x.period * x.period) } } }) ∧
      (¬ old → exec .templateAnchorAdvance s = .next s))) ∧
  (∀ s : State,
    s.winLines = (match s.planner.lines with
      | .shut => (false, false) | .openAir => (false, true) | .rsvA => (true, false) | .rsvB => (true, true)) ∧
    (s.control.mode = .standby ∨ s.control.mode = .observe → formedCode s = .openAir) ∧
    (s.control.mode = .hold → formedCode s = .shut) ∧
    (s.control.mode = .active ∨ s.control.mode = .fallback → ∀ now : Reservation → Bool,
      (∀ e, now e = decide (e.state = .opened ∧ (s.airClock - e.start).toNat < e.length)) →
      (∀ e, s.planner.queue.find? now = some e →
        formedCode s = (match e.lane with | .a => .rsvA | .b => .rsvB)) ∧
      (s.planner.queue.find? now = none →
        (∀ (i : Nat) (r : Rule), s.planner.rules[i]? = some r → r.test s 0 = true →
          (∀ (j : Nat) (r' : Rule), j < i → s.planner.rules[j]? = some r' → r'.test s 0 = false) →
          formedCode s = (match r.action with | .shut => .shut | .openAir => .openAir)) ∧
        ((∀ r ∈ s.planner.rules, r.test s 0 = false) → formedCode s = .openAir))))

/-- What a rule tests: its predicate, or the opposite when it is inverted (R111), the predicates of Table 6-2 reading the
windows of the trackers that cover O, each from floor(E_k/16) less its guard to ceil(E_k/16) plus its on-duration and guard
(R99, R108): a LOCKED oven's guard widens with its age up to the cap (R100), and in FALLBACK OVEN_LOCKED reads the template
alone (R104, R109). Both edges of a window are formed from the guard of the present age, so that a window just ended holds
again when its guard steps within the rate of its end (R103; the model's choice: log 37), and at an age of exactly
5,000,000 µs j is 50, where R100 says that j never exceeds 49 (the model's choice: log 36). -/
def Obligations.PredicatesReadTheWindows : Prop :=
  ∀ (s : State) (x : Int) (inWindow : Sixteenth → Nat → Nat → Nat → Prop),
    (∀ anchor period onTime g, inWindow anchor period onTime g ↔ ∃ (k : Nat) (rise : Int),
      rise = (anchor - BitVec.ofNat 36 (16 * s.airClock.toNat)).toInt + k * period ∧
      rise / 16 - g ≤ x ∧ x < (rise + 15) / 16 + onTime + g) →
    ∀ (covers : Tracker → Prop),
      (∀ e, covers e ↔ ∃ o, s.dwells.operating = some o ∧ ∃ d ∈ e.span, d ≤ o + 3 ∧ o ≤ d + 3) →
    (∀ r : Rule, r.test s x = (if r.invert then !r.predicate.holdsAt s x else r.predicate.holdsAt s x)) ∧
    ((∀ e ∈ s.tracking.entries, e.state = .acquiring ∨ e.state = .locked → 0 < e.period) →
        s.control.mode ≠ .fallback →
      (Predicate.ovenLocked.holdsAt s x = true ↔ ∃ e ∈ s.tracking.entries, e.kind = .oven ∧ e.state = .locked ∧
        covers e ∧ ∃ g, g = min s.tracking.settings.guardCap (s.tracking.settings.guardBase +
          s.tracking.settings.wideningRate *
            (match e.lastHit with | some hit => (s.airClock - hit).toNat / 100000 | none => 0)) ∧
        inWindow e.anchor e.period e.onDuration g)) ∧
    (∀ t, s.planner.template = some t → 0 < t.period → s.control.mode = .fallback →
      (Predicate.ovenLocked.holdsAt s x = true ↔ inWindow t.anchor t.period t.onDuration (t.ovenGuard + t.margin))) ∧
    ((∀ e ∈ s.tracking.entries, e.state = .acquiring ∨ e.state = .locked → 0 < e.period) →
      (Predicate.ovenAcq.holdsAt s x = true ↔ ∃ e ∈ s.tracking.entries, e.kind = .oven ∧ e.state = .acquiring ∧
        covers e ∧ inWindow e.anchor e.period e.onDuration (s.tracking.settings.guardBase + 500)) ∧
      (Predicate.beacon.holdsAt s x = true ↔ ∃ e ∈ s.tracking.entries, e.kind = .beacon ∧ e.state = .locked ∧
        s.dwells.operating = some e.channel ∧
        inWindow e.anchor e.period e.onDuration s.tracking.settings.beaconGuard)) ∧
    (Predicate.anyLock.holdsAt s x = true ↔
      ∃ e ∈ s.tracking.entries, e.kind = .oven ∧ e.state = .locked ∧ covers e) ∧
    (Predicate.loadHigh.holdsAt s x = true ↔
      ∃ o, s.dwells.operating = some o ∧ s.planner.loadThreshold ≤ (s.channelRecord o).load) ∧
    Predicate.always.holdsAt s x = true

/-- At its commit point a PENDING entry is re-checked (R131): a clear stretch makes it COMMITTED; otherwise it moves to
the earliest later start within its deadline, with a SHIFTED report; and with no such start it is removed, with a DISPLACED
report of reason PREDICTION, a series then taking the removal as a skip (R133, R142). A plan change re-checks once, with now
as decision instant, every entry that is PENDING, in the queue's order, and then each RUNNING series that holds a retry
instant tries its rebase, in order of id; it changes nothing but queue, series and reports (R132). A skip adds 1 to the
consecutive and the total skips, and the occurrence of the next index is tried at once; the third running brings a rebase
(R142). -/
def Obligations.CommitPointRechecksTheEntry : Prop :=
  (∀ (s : State) (e : Reservation) (x : Int), Running s →
    s.planner.queue.find? (fun y => decide (y.state = .pending ∧ (y.start - s.airClock).toInt ≤ 2000)) = some e →
    x = (e.start - s.airClock).toInt →
    exec .commitPoint s = .next (pump (recheck e.start s)) ∧
    (clearStretch s (some e.start) x e.length = true →
      exec .commitPoint s = .next (pump { s with planner := { s.planner with
        queue := s.planner.queue.map (fun y => if y.start = e.start then { y with state := .committed } else y) } })) ∧
    (clearStretch s (some e.start) x e.length = false →
      (∀ (d : Int) (start : Instant) (st : EntryState),
        placementSearch s (some e.start) x (e.deadline - s.airClock).toInt e.length = some d →
        start = s.airClock + BitVec.ofInt 32 d →
        st = (if (start - s.airClock).toInt ≤ 2000 then .committed else .pending) →
        exec .commitPoint s = .next (pump { s with
          planner := { s.planner with
            queue := insertEntry { e with start := start, state := st }
              (s.planner.queue.filter (fun y => decide (y.start ≠ e.start))) }
          link := s.link.hand .shifted
            ([e.lane.code, e.origin.code, s.entryTag e.origin] ++ le32 start ++ le32 e.deadline) })) ∧
      (placementSearch s (some e.start) x (e.deadline - s.airClock).toInt e.length = none →
        ∀ u : State, u = { s with
          planner := { s.planner with queue := s.planner.queue.filter (fun y => decide (y.start ≠ e.start)) }
          link := s.link.hand .displaced
            ([e.lane.code, e.origin.code, s.entryTag e.origin] ++ le32 e.start ++ [0]) } →
        (∀ tag, e.origin = .oneShot tag → exec .commitPoint s = .next (pump u)) ∧
        (∀ id, e.origin = .series id →
          exec .commitPoint s = .next (pump (skipOccurrence id u)) ∧ PlannerStep u (skipOccurrence id u))))) ∧
  (∀ s : State, PlannerStep s (planChange s) ∧
    planChange s = [0, 1, 2, 3].foldl
      (fun v id => match v.planner.series.find? (fun y => decide (y.id = id)) with
        | some y => if y.state = .running ∧ y.retry.isSome = true then rebase id .retry v else v
        | none => v)
      (((s.planner.queue.filter (fun y => decide (y.state = .pending))).map Reservation.start).foldl
        (fun v start => recheck start v) s)) ∧
  (∀ (s : State) (start : Instant) (x : Int), x = (start - s.airClock).toInt →
    (s.planner.queue.find? (fun y => decide (y.start = start ∧ y.state = .pending)) = none →
      recheck start s = s) ∧
    (∀ e, s.planner.queue.find? (fun y => decide (y.start = start ∧ y.state = .pending)) = some e →
      (clearStretch s (some start) x e.length = true →
        recheck start s = { s with planner := { s.planner with
          queue := s.planner.queue.map (fun y =>
            if y.start = start then { y with state := if x ≤ 2000 then .committed else .pending } else y) } }) ∧
      (clearStretch s (some start) x e.length = false →
        (∀ (d : Int) (moved : Instant) (st : EntryState),
          placementSearch s (some start) x (e.deadline - s.airClock).toInt e.length = some d →
          moved = s.airClock + BitVec.ofInt 32 d →
          st = (if (moved - s.airClock).toInt ≤ 2000 then .committed else .pending) →
          recheck start s = { s with
            planner := { s.planner with
              queue := insertEntry { e with start := moved, state := st }
                (s.planner.queue.filter (fun y => decide (y.start ≠ start))) }
            link := s.link.hand .shifted
              ([e.lane.code, e.origin.code, s.entryTag e.origin] ++ le32 moved ++ le32 e.deadline) }) ∧
        (placementSearch s (some start) x (e.deadline - s.airClock).toInt e.length = none →
          ∀ u : State, u = { s with
            planner := { s.planner with queue := s.planner.queue.filter (fun y => decide (y.start ≠ start)) }
            link := s.link.hand .displaced
              ([e.lane.code, e.origin.code, s.entryTag e.origin] ++ le32 start ++ [0]) } →
          (∀ tag, e.origin = .oneShot tag → recheck start s = u) ∧
          (∀ id, e.origin = .series id → recheck start s = skipOccurrence id u))))) ∧
  (∀ (s : State) (id : Nat),
    (s.planner.series.find? (fun y => decide (y.id = id)) = none → skipOccurrence id s = s) ∧
    (∀ x, s.planner.series.find? (fun y => decide (y.id = id)) = some x →
      ∀ counted : Nat → State,
        (∀ n, counted n = { s with planner := { s.planner with
          series := s.planner.series.map (fun y => if y.id = id then
            { y with index := y.index + n, consecutiveSkips := y.consecutiveSkips + 1
                     totalSkips := min 65535 (y.totalSkips + 1) } else y) } }) →
        (x.consecutiveSkips + 1 < 3 → skipOccurrence id s = tryOccurrences 3 id (counted 1)) ∧
        (3 ≤ x.consecutiveSkips + 1 → skipOccurrence id s = rebase id .skips (counted 0))))

/-- At its start a COMMITTED entry becomes OPEN (R134). Its series moves its anchor to the opened occurrence and tries the
next one (R141): it is placed when it is admitted and fits; otherwise it is a skip, the next index being tried, and the third
consecutive skip brings a rebase of cause SKIPS (R142). At its end an OPEN entry is removed (R135). The lines are re-formed
at both. -/
def Obligations.WindowsOpenAndEnd : Prop :=
  (∀ (s : State) (e : Reservation), Running s →
    (s.planner.queue.find? (fun y => decide (y.state = .committed ∧ (y.start - s.airClock).toInt ≤ 0)) = some e →
      ∀ q : List Reservation,
        q = s.planner.queue.map (fun y => if y.start = e.start then { y with state := .opened } else y) →
      (∀ tag, e.origin = .oneShot tag →
        exec .windowStart s = .next (pump (reform { s with planner := { s.planner with queue := q } }))) ∧
      (∀ (id : Nat) (x : Series), e.origin = .series id →
        s.planner.series.find? (fun y => decide (y.id = id)) = some x →
        ∀ (u : State) (nominal : Int),
          u = { s with planner := { s.planner with
            queue := q
            series := s.planner.series.map (fun y => if y.id = id then
              { y with anchor := y.anchor + BitVec.ofNat 32 (y.index * y.period), index := 1, consecutiveSkips := 0 }
              else y) } } →
          nominal = (x.anchor + BitVec.ofNat 32 (x.index * x.period) - s.airClock).toInt + x.period →
        ∃ t, exec .windowStart s = .next (pump (reform t)) ∧ PlannerStep u t ∧ t = tryOccurrences 3 id u ∧
          (∀ (d : Int) (start : Instant), u.planner.admits x.lane = true →
            placementSearch u none (max nominal 500) (nominal + x.slide + x.length) x.length = some d →
            start = s.airClock + BitVec.ofInt 32 d →
            t = { u with planner := { u.planner with
              queue := insertEntry
                { lane := x.lane, origin := .series id, start := start, length := x.length
                  deadline := s.airClock + BitVec.ofInt 32 (nominal + x.slide + x.length)
                  state := if (start - s.airClock).toInt ≤ 2000 then .committed else .pending } q } }))) ∧
    (s.planner.queue.find? (fun y => decide (y.state = .opened ∧ (y.start - s.airClock).toInt + y.length ≤ 0))
        = some e →
      exec .windowEnd s = .next (pump (reform { s with planner := { s.planner with
        queue := s.planner.queue.filter (fun y => decide (y.start ≠ e.start)) } })))) ∧
  (∀ (s : State) (id : Nat) (x : Series) (nominal : Int),
    s.planner.series.find? (fun y => decide (y.id = id)) = some x →
    nominal = (x.anchor - s.airClock).toInt + x.index * x.period →
    ∀ counted : Nat → State,
      (∀ n, counted n = { s with planner := { s.planner with
        series := s.planner.series.map (fun y => if y.id = id then
          { y with index := y.index + n, consecutiveSkips := y.consecutiveSkips + 1
                   totalSkips := min 65535 (y.totalSkips + 1) } else y) } }) →
    (∀ (d : Int) (start : Instant), s.planner.admits x.lane = true →
      placementSearch s none (max nominal 500) (nominal + x.slide + x.length) x.length = some d →
      start = s.airClock + BitVec.ofInt 32 d →
      tryOccurrences 3 id s = { s with planner := { s.planner with
        queue := insertEntry
          { lane := x.lane, origin := .series id, start := start, length := x.length
            deadline := s.airClock + BitVec.ofInt 32 (nominal + x.slide + x.length)
            state := if (start - s.airClock).toInt ≤ 2000 then .committed else .pending } s.planner.queue } }) ∧
    (s.planner.admits x.lane = false ∨
        placementSearch s none (max nominal 500) (nominal + x.slide + x.length) x.length = none →
      (x.consecutiveSkips + 1 < 3 → tryOccurrences 3 id s = tryOccurrences 3 id (counted 1)) ∧
      (3 ≤ x.consecutiveSkips + 1 → tryOccurrences 3 id s = rebase id .skips (counted 0))))

/-- A RUNNING series tries its rebase at its retry instant, the lowest id first (R143): on admission and a fit it takes a
new anchor with index 0, no consecutive skips and no retry instant, its occurrence 0 is placed and a REBASE report of cause
RETRY is handed over; otherwise its retry instant becomes one period from now. A rebase of any cause acts so, its report
carrying the cause, and changes nothing but queue, series and reports. -/
def Obligations.SeriesRetriesItsRebase : Prop :=
  (∀ (s : State) (id : Nat) (x : Series) (retry : Instant), Running s → id < 4 →
    s.planner.series.find? (fun y => decide (y.id = id)) = some x → x.state = .running → x.retry = some retry →
    Instant.atOrBefore retry s.airClock = true →
    (∀ j < id, ∀ y, s.planner.series.find? (fun z => decide (z.id = j)) = some y → y.state = .running →
      ∀ r, y.retry = some r → Instant.atOrBefore r s.airClock = false) →
    (∀ (d : Int) (start : Instant), s.planner.admits x.lane = true →
      placementSearch s none 500 (500 + x.period + x.length) x.length = some d →
      start = s.airClock + BitVec.ofInt 32 d →
      exec .seriesRetry s = .next (pump { s with
        planner := { s.planner with
          series := s.planner.series.map (fun y => if y.id = id then
            { y with anchor := start, index := 0, consecutiveSkips := 0, retry := none } else y)
          queue := insertEntry
            { lane := x.lane, origin := .series id, start := start, length := x.length
              deadline := start + BitVec.ofNat 32 (x.slide + x.length)
              state := if (start - s.airClock).toInt ≤ 2000 then .committed else .pending } s.planner.queue }
        link := s.link.hand .rebase ([byteOf id, x.lane.code, x.tag] ++ le32 start ++ [3]) })) ∧
    (s.planner.admits x.lane = false ∨
        placementSearch s none 500 (500 + x.period + x.length) x.length = none →
      exec .seriesRetry s = .next (pump { s with planner := { s.planner with
        series := s.planner.series.map (fun y => if y.id = id then
          { y with retry := some (s.airClock + BitVec.ofNat 32 y.period) } else y) } }))) ∧
  (∀ (s : State) (id : Nat) (cause : RebaseCause), PlannerStep s (rebase id cause s) ∧
    (s.planner.series.find? (fun y => decide (y.id = id)) = none → rebase id cause s = s) ∧
    (∀ x, s.planner.series.find? (fun y => decide (y.id = id)) = some x →
      (∀ (d : Int) (start : Instant), s.planner.admits x.lane = true →
        placementSearch s none 500 (500 + x.period + x.length) x.length = some d →
        start = s.airClock + BitVec.ofInt 32 d →
        rebase id cause s = { s with
          planner := { s.planner with
            series := s.planner.series.map (fun y => if y.id = id then
              { y with anchor := start, index := 0, consecutiveSkips := 0, retry := none } else y)
            queue := insertEntry
              { lane := x.lane, origin := .series id, start := start, length := x.length
                deadline := start + BitVec.ofNat 32 (x.slide + x.length)
                state := if (start - s.airClock).toInt ≤ 2000 then .committed else .pending } s.planner.queue }
          link := s.link.hand .rebase ([byteOf id, x.lane.code, x.tag] ++ le32 start ++
            [match cause with | .skips => 0 | .channel => 1 | .resume => 2 | .retry => 3]) }) ∧
      (s.planner.admits x.lane = false ∨
          placementSearch s none 500 (500 + x.period + x.length) x.length = none →
        rebase id cause s = { s with planner := { s.planner with
          series := s.planner.series.map (fun y => if y.id = id then
            { y with retry := some (s.airClock + BitVec.ofNat 32 y.period) } else y) } })))

/-- The placement search finds the earliest clear window, as seen from now, or tells that there is none (R126, R127): the
start it gives is at or after the search start, its window ends at or before the limit and is clear throughout, and no
earlier start has such a window. A stretch is clear when every instant of it is. -/
def Obligations.PlacementSearchFindsTheEarliestClearWindow : Prop :=
  ∀ (s : State) (except : Option Instant) (lo limit : Int) (len : Nat), 0 < len →
    (∀ d, placementSearch s except lo limit len = some d →
      lo ≤ d ∧ d + len ≤ limit ∧ (∀ x, d ≤ x → x < d + len → clearAt s except x = true) ∧
      ∀ d', lo ≤ d' → d' < d → ∃ x, d' ≤ x ∧ x < d' + len ∧ clearAt s except x = false) ∧
    (placementSearch s except lo limit len = none →
      ∀ d, lo ≤ d → d + len ≤ limit → ∃ x, d ≤ x ∧ x < d + len ∧ clearAt s except x = false) ∧
    (clearStretch s except lo len = true ↔ ∀ x, lo ≤ x → x < lo + len → clearAt s except x = true)

/-- The longest base-OPEN run of an interval is the length of some stretch of it whose base code is OPEN throughout, and
no longer stretch of it is OPEN throughout (R128). -/
def Obligations.LongestOpenRunIsExact : Prop :=
  ∀ (s : State) (lo limit : Int), lo ≤ limit →
    (∃ a, lo ≤ a ∧ a + longestOpenRun s lo limit ≤ limit ∧
      ∀ x, a ≤ x → x < a + longestOpenRun s lo limit → baseCode s x = .openAir) ∧
    (∀ (a : Int) (n : Nat), lo ≤ a → a + n ≤ limit → (∀ x, a ≤ x → x < a + n → baseCode s x = .openAir) →
      n ≤ longestOpenRun s lo limit)

/-! ### Forms of fields (chapters 1 and 10) -/

/-- The time code formed for a value up to 67,092,480 µs has the smallest scale at which the rounded-up mantissa fits, and
stands for the least value at or above it that any time code can carry (R8, R9); a value that a time code carries is formed
back exactly. A CRC appended to the bytes it covers brings the CRC register to 0 (R183). -/
def Obligations.TimeCodesAndCrc : Prop :=
  (∀ v : Nat, v ≤ 67092480 →
    (timeCodeOf v).getLsbD 15 = false ∧ v ≤ timeCodeValue (timeCodeOf v) ∧
    (∀ c : Half, c.getLsbD 15 = false → v ≤ timeCodeValue c → timeCodeValue (timeCodeOf v) ≤ timeCodeValue c) ∧
    (∀ n < (timeCodeOf v).toNat / 4096, 4095 * 4 ^ n < v)) ∧
  (∀ c : Half, c.getLsbD 15 = false → timeCodeValue (timeCodeOf (timeCodeValue c)) = timeCodeValue c) ∧
  (∀ bytes : List Byte, crc8 (bytes ++ [crc8 bytes]) = 0)

/-! ### Invariants that every step keeps -/

/-- Every step keeps the queues of the link controller within their sizes and its error count within its byte (Table 10-1,
R192), the score, threshold and further count of the escalation unit within theirs (R152, R160, R163), and the 13 channel
records within theirs (R46). -/
def Obligations.StepKeepsCountsWithinTheirFields : Prop :=
  ∀ s t : State, LinkBounded s → EscalationBounded s → RecordsSound s → step s = .next t →
    LinkBounded t ∧ EscalationBounded t ∧ RecordsSound t

/-- Every step keeps the tracker table sound: 12 entries, at most 4 of them BEACON, counters within their fields, and the
period and on-duration of every OVEN entry that predicts within their ranges (R58, R59, R94, R95, Table 4-1). -/
def Obligations.StepKeepsTheTrackerTableSound : Prop :=
  ∀ s t : State, TrackingSound s → step s = .next t → TrackingSound t

/-- Every step keeps what each mode allows: no entry and no RUNNING series outside ACTIVE and FALLBACK, no series in
STANDBY, a template in FALLBACK (Table 9-1, R145, R148, R170); no more entries beyond the lane reserves than the shared
capacity (R124, R125); and the lines at OPEN in STANDBY and OBSERVE and at SHUT in HOLD (R116, R118). -/
def Obligations.StepKeepsWhatTheModeAllows : Prop :=
  ∀ s t : State, BookingsByMode s → QueueAdmitted s → LinesByMode s → step s = .next t →
    BookingsByMode t ∧ QueueAdmitted t ∧ LinesByMode t

/-- The state right after reset meets every invariant. -/
def Obligations.ResetMeetsTheInvariants : Prop :=
  LinkBounded State.reset ∧ EscalationBounded State.reset ∧ RecordsSound State.reset ∧ TrackingSound State.reset ∧
    BookingsByMode State.reset ∧ QueueAdmitted State.reset ∧ LinesByMode State.reset
end

