-- ==== Sys2Proof/Laws/State.lean ====
section
/-! SUPPORT. One lemma per field per update of the state: what each named update leaves, so that no proof unfolds a record
update. -/

namespace Sys2Proof.Machine

variable (s : State)

/-! ### `State.withLink` -/

@[simp] theorem State.withLink_airClock (l : Link) : (s.withLink l).airClock = s.airClock := rfl
@[simp] theorem State.withLink_sense (l : Link) : (s.withLink l).sense = s.sense := rfl
@[simp] theorem State.withLink_dwells (l : Link) : (s.withLink l).dwells = s.dwells := rfl
@[simp] theorem State.withLink_tracking (l : Link) : (s.withLink l).tracking = s.tracking := rfl
@[simp] theorem State.withLink_planner (l : Link) : (s.withLink l).planner = s.planner := rfl
@[simp] theorem State.withLink_escalation (l : Link) : (s.withLink l).escalation = s.escalation := rfl
@[simp] theorem State.withLink_control (l : Link) : (s.withLink l).control = s.control := rfl
@[simp] theorem State.withLink_link (l : Link) : (s.withLink l).link = l := rfl
@[simp] theorem State.withLink_choices (l : Link) : (s.withLink l).choices = s.choices := rfl
@[simp] theorem State.withLink_pending (l : Link) : (s.withLink l).pending = s.pending := rfl

/-! ### `State.withSense` -/

@[simp] theorem State.withSense_airClock (x : Sense) : (s.withSense x).airClock = s.airClock := rfl
@[simp] theorem State.withSense_sense (x : Sense) : (s.withSense x).sense = x := rfl
@[simp] theorem State.withSense_dwells (x : Sense) : (s.withSense x).dwells = s.dwells := rfl
@[simp] theorem State.withSense_tracking (x : Sense) : (s.withSense x).tracking = s.tracking := rfl
@[simp] theorem State.withSense_planner (x : Sense) : (s.withSense x).planner = s.planner := rfl
@[simp] theorem State.withSense_escalation (x : Sense) : (s.withSense x).escalation = s.escalation := rfl
@[simp] theorem State.withSense_control (x : Sense) : (s.withSense x).control = s.control := rfl
@[simp] theorem State.withSense_link (x : Sense) : (s.withSense x).link = s.link := rfl
@[simp] theorem State.withSense_choices (x : Sense) : (s.withSense x).choices = s.choices := rfl
@[simp] theorem State.withSense_pending (x : Sense) : (s.withSense x).pending = s.pending := rfl

/-! ### `State.withDwells` -/

@[simp] theorem State.withDwells_airClock (d : Dwells) : (s.withDwells d).airClock = s.airClock := rfl
@[simp] theorem State.withDwells_sense (d : Dwells) : (s.withDwells d).sense = s.sense := rfl
@[simp] theorem State.withDwells_dwells (d : Dwells) : (s.withDwells d).dwells = d := rfl
@[simp] theorem State.withDwells_tracking (d : Dwells) : (s.withDwells d).tracking = s.tracking := rfl
@[simp] theorem State.withDwells_planner (d : Dwells) : (s.withDwells d).planner = s.planner := rfl
@[simp] theorem State.withDwells_escalation (d : Dwells) : (s.withDwells d).escalation = s.escalation := rfl
@[simp] theorem State.withDwells_control (d : Dwells) : (s.withDwells d).control = s.control := rfl
@[simp] theorem State.withDwells_link (d : Dwells) : (s.withDwells d).link = s.link := rfl
@[simp] theorem State.withDwells_choices (d : Dwells) : (s.withDwells d).choices = s.choices := rfl
@[simp] theorem State.withDwells_pending (d : Dwells) : (s.withDwells d).pending = s.pending := rfl

/-! ### `State.withTracking` -/

@[simp] theorem State.withTracking_airClock (t : Tracking) : (s.withTracking t).airClock = s.airClock := rfl
@[simp] theorem State.withTracking_sense (t : Tracking) : (s.withTracking t).sense = s.sense := rfl
@[simp] theorem State.withTracking_dwells (t : Tracking) : (s.withTracking t).dwells = s.dwells := rfl
@[simp] theorem State.withTracking_tracking (t : Tracking) : (s.withTracking t).tracking = t := rfl
@[simp] theorem State.withTracking_planner (t : Tracking) : (s.withTracking t).planner = s.planner := rfl
@[simp] theorem State.withTracking_escalation (t : Tracking) : (s.withTracking t).escalation = s.escalation := rfl
@[simp] theorem State.withTracking_control (t : Tracking) : (s.withTracking t).control = s.control := rfl
@[simp] theorem State.withTracking_link (t : Tracking) : (s.withTracking t).link = s.link := rfl
@[simp] theorem State.withTracking_choices (t : Tracking) : (s.withTracking t).choices = s.choices := rfl
@[simp] theorem State.withTracking_pending (t : Tracking) : (s.withTracking t).pending = s.pending := rfl

/-! ### `State.withPlanner` -/

@[simp] theorem State.withPlanner_airClock (p : Planner) : (s.withPlanner p).airClock = s.airClock := rfl
@[simp] theorem State.withPlanner_sense (p : Planner) : (s.withPlanner p).sense = s.sense := rfl
@[simp] theorem State.withPlanner_dwells (p : Planner) : (s.withPlanner p).dwells = s.dwells := rfl
@[simp] theorem State.withPlanner_tracking (p : Planner) : (s.withPlanner p).tracking = s.tracking := rfl
@[simp] theorem State.withPlanner_planner (p : Planner) : (s.withPlanner p).planner = p := rfl
@[simp] theorem State.withPlanner_escalation (p : Planner) : (s.withPlanner p).escalation = s.escalation := rfl
@[simp] theorem State.withPlanner_control (p : Planner) : (s.withPlanner p).control = s.control := rfl
@[simp] theorem State.withPlanner_link (p : Planner) : (s.withPlanner p).link = s.link := rfl
@[simp] theorem State.withPlanner_choices (p : Planner) : (s.withPlanner p).choices = s.choices := rfl
@[simp] theorem State.withPlanner_pending (p : Planner) : (s.withPlanner p).pending = s.pending := rfl

/-! ### `State.withEscalation` -/

@[simp] theorem State.withEscalation_airClock (e : Escalation) : (s.withEscalation e).airClock = s.airClock := rfl
@[simp] theorem State.withEscalation_sense (e : Escalation) : (s.withEscalation e).sense = s.sense := rfl
@[simp] theorem State.withEscalation_dwells (e : Escalation) : (s.withEscalation e).dwells = s.dwells := rfl
@[simp] theorem State.withEscalation_tracking (e : Escalation) : (s.withEscalation e).tracking = s.tracking := rfl
@[simp] theorem State.withEscalation_planner (e : Escalation) : (s.withEscalation e).planner = s.planner := rfl
@[simp] theorem State.withEscalation_escalation (e : Escalation) : (s.withEscalation e).escalation = e := rfl
@[simp] theorem State.withEscalation_control (e : Escalation) : (s.withEscalation e).control = s.control := rfl
@[simp] theorem State.withEscalation_link (e : Escalation) : (s.withEscalation e).link = s.link := rfl
@[simp] theorem State.withEscalation_choices (e : Escalation) : (s.withEscalation e).choices = s.choices := rfl
@[simp] theorem State.withEscalation_pending (e : Escalation) : (s.withEscalation e).pending = s.pending := rfl

/-! ### `State.withControl` -/

@[simp] theorem State.withControl_airClock (c : Control) : (s.withControl c).airClock = s.airClock := rfl
@[simp] theorem State.withControl_sense (c : Control) : (s.withControl c).sense = s.sense := rfl
@[simp] theorem State.withControl_dwells (c : Control) : (s.withControl c).dwells = s.dwells := rfl
@[simp] theorem State.withControl_tracking (c : Control) : (s.withControl c).tracking = s.tracking := rfl
@[simp] theorem State.withControl_planner (c : Control) : (s.withControl c).planner = s.planner := rfl
@[simp] theorem State.withControl_escalation (c : Control) : (s.withControl c).escalation = s.escalation := rfl
@[simp] theorem State.withControl_control (c : Control) : (s.withControl c).control = c := rfl
@[simp] theorem State.withControl_link (c : Control) : (s.withControl c).link = s.link := rfl
@[simp] theorem State.withControl_choices (c : Control) : (s.withControl c).choices = s.choices := rfl
@[simp] theorem State.withControl_pending (c : Control) : (s.withControl c).pending = s.pending := rfl

/-! ### `State.withPending` -/

@[simp] theorem State.withPending_airClock (cs : List Instr) : (s.withPending cs).airClock = s.airClock := rfl
@[simp] theorem State.withPending_sense (cs : List Instr) : (s.withPending cs).sense = s.sense := rfl
@[simp] theorem State.withPending_dwells (cs : List Instr) : (s.withPending cs).dwells = s.dwells := rfl
@[simp] theorem State.withPending_tracking (cs : List Instr) : (s.withPending cs).tracking = s.tracking := rfl
@[simp] theorem State.withPending_planner (cs : List Instr) : (s.withPending cs).planner = s.planner := rfl
@[simp] theorem State.withPending_escalation (cs : List Instr) : (s.withPending cs).escalation = s.escalation := rfl
@[simp] theorem State.withPending_control (cs : List Instr) : (s.withPending cs).control = s.control := rfl
@[simp] theorem State.withPending_link (cs : List Instr) : (s.withPending cs).link = s.link := rfl
@[simp] theorem State.withPending_choices (cs : List Instr) : (s.withPending cs).choices = s.choices := rfl
@[simp] theorem State.withPending_pending (cs : List Instr) : (s.withPending cs).pending = cs := rfl

/-! ### `State.withQueue` -/

@[simp] theorem State.withQueue_airClock (q : List Reservation) : (s.withQueue q).airClock = s.airClock := rfl
@[simp] theorem State.withQueue_sense (q : List Reservation) : (s.withQueue q).sense = s.sense := rfl
@[simp] theorem State.withQueue_dwells (q : List Reservation) : (s.withQueue q).dwells = s.dwells := rfl
@[simp] theorem State.withQueue_tracking (q : List Reservation) : (s.withQueue q).tracking = s.tracking := rfl
@[simp] theorem State.withQueue_planner (q : List Reservation) : (s.withQueue q).planner = { s.planner with queue := q } := rfl
@[simp] theorem State.withQueue_escalation (q : List Reservation) : (s.withQueue q).escalation = s.escalation := rfl
@[simp] theorem State.withQueue_control (q : List Reservation) : (s.withQueue q).control = s.control := rfl
@[simp] theorem State.withQueue_link (q : List Reservation) : (s.withQueue q).link = s.link := rfl
@[simp] theorem State.withQueue_choices (q : List Reservation) : (s.withQueue q).choices = s.choices := rfl
@[simp] theorem State.withQueue_pending (q : List Reservation) : (s.withQueue q).pending = s.pending := rfl

/-! ### `State.withHeld` -/

@[simp] theorem State.withHeld_airClock (h : Option HeldRecord) : (s.withHeld h).airClock = s.airClock := rfl
@[simp] theorem State.withHeld_sense (h : Option HeldRecord) : (s.withHeld h).sense = { s.sense with held := h } := rfl
@[simp] theorem State.withHeld_dwells (h : Option HeldRecord) : (s.withHeld h).dwells = s.dwells := rfl
@[simp] theorem State.withHeld_tracking (h : Option HeldRecord) : (s.withHeld h).tracking = s.tracking := rfl
@[simp] theorem State.withHeld_planner (h : Option HeldRecord) : (s.withHeld h).planner = s.planner := rfl
@[simp] theorem State.withHeld_escalation (h : Option HeldRecord) : (s.withHeld h).escalation = s.escalation := rfl
@[simp] theorem State.withHeld_control (h : Option HeldRecord) : (s.withHeld h).control = s.control := rfl
@[simp] theorem State.withHeld_link (h : Option HeldRecord) : (s.withHeld h).link = s.link := rfl
@[simp] theorem State.withHeld_choices (h : Option HeldRecord) : (s.withHeld h).choices = s.choices := rfl
@[simp] theorem State.withHeld_pending (h : Option HeldRecord) : (s.withHeld h).pending = s.pending := rfl

/-! ### `State.withAdvice` -/

@[simp] theorem State.withAdvice_airClock (a : Advice) : (s.withAdvice a).airClock = s.airClock := rfl
@[simp] theorem State.withAdvice_sense (a : Advice) : (s.withAdvice a).sense = s.sense := rfl
@[simp] theorem State.withAdvice_dwells (a : Advice) : (s.withAdvice a).dwells = { s.dwells with advice := a } := rfl
@[simp] theorem State.withAdvice_tracking (a : Advice) : (s.withAdvice a).tracking = s.tracking := rfl
@[simp] theorem State.withAdvice_planner (a : Advice) : (s.withAdvice a).planner = s.planner := rfl
@[simp] theorem State.withAdvice_escalation (a : Advice) : (s.withAdvice a).escalation = s.escalation := rfl
@[simp] theorem State.withAdvice_control (a : Advice) : (s.withAdvice a).control = s.control := rfl
@[simp] theorem State.withAdvice_link (a : Advice) : (s.withAdvice a).link = s.link := rfl
@[simp] theorem State.withAdvice_choices (a : Advice) : (s.withAdvice a).choices = s.choices := rfl
@[simp] theorem State.withAdvice_pending (a : Advice) : (s.withAdvice a).pending = s.pending := rfl

/-! ### `State.withTemplate` -/

@[simp] theorem State.withTemplate_airClock (t : Option Template) : (s.withTemplate t).airClock = s.airClock := rfl
@[simp] theorem State.withTemplate_sense (t : Option Template) : (s.withTemplate t).sense = s.sense := rfl
@[simp] theorem State.withTemplate_dwells (t : Option Template) : (s.withTemplate t).dwells = s.dwells := rfl
@[simp] theorem State.withTemplate_tracking (t : Option Template) : (s.withTemplate t).tracking = s.tracking := rfl
@[simp] theorem State.withTemplate_planner (t : Option Template) : (s.withTemplate t).planner = { s.planner with template := t } := rfl
@[simp] theorem State.withTemplate_escalation (t : Option Template) : (s.withTemplate t).escalation = s.escalation := rfl
@[simp] theorem State.withTemplate_control (t : Option Template) : (s.withTemplate t).control = s.control := rfl
@[simp] theorem State.withTemplate_link (t : Option Template) : (s.withTemplate t).link = s.link := rfl
@[simp] theorem State.withTemplate_choices (t : Option Template) : (s.withTemplate t).choices = s.choices := rfl
@[simp] theorem State.withTemplate_pending (t : Option Template) : (s.withTemplate t).pending = s.pending := rfl

/-! ### `State.withReceiver` -/

@[simp] theorem State.withReceiver_airClock (r : Receiver) : (s.withReceiver r).airClock = s.airClock := rfl
@[simp] theorem State.withReceiver_sense (r : Receiver) : (s.withReceiver r).sense = s.sense := rfl
@[simp] theorem State.withReceiver_dwells (r : Receiver) : (s.withReceiver r).dwells = s.dwells := rfl
@[simp] theorem State.withReceiver_tracking (r : Receiver) : (s.withReceiver r).tracking = s.tracking := rfl
@[simp] theorem State.withReceiver_planner (r : Receiver) : (s.withReceiver r).planner = s.planner := rfl
@[simp] theorem State.withReceiver_escalation (r : Receiver) : (s.withReceiver r).escalation = s.escalation := rfl
@[simp] theorem State.withReceiver_control (r : Receiver) : (s.withReceiver r).control = s.control := rfl
@[simp] theorem State.withReceiver_link (r : Receiver) : (s.withReceiver r).link = { s.link with receiver := r } := rfl
@[simp] theorem State.withReceiver_choices (r : Receiver) : (s.withReceiver r).choices = s.choices := rfl
@[simp] theorem State.withReceiver_pending (r : Receiver) : (s.withReceiver r).pending = s.pending := rfl

/-! ### `State.setMode` -/

@[simp] theorem State.setMode_airClock (m : Mode) : (s.setMode m).airClock = s.airClock := rfl
@[simp] theorem State.setMode_sense (m : Mode) : (s.setMode m).sense = s.sense := rfl
@[simp] theorem State.setMode_dwells (m : Mode) : (s.setMode m).dwells = s.dwells := rfl
@[simp] theorem State.setMode_tracking (m : Mode) : (s.setMode m).tracking = s.tracking := rfl
@[simp] theorem State.setMode_planner (m : Mode) : (s.setMode m).planner = s.planner := rfl
@[simp] theorem State.setMode_escalation (m : Mode) : (s.setMode m).escalation = s.escalation := rfl
@[simp] theorem State.setMode_control (m : Mode) : (s.setMode m).control = { s.control with mode := m } := rfl
@[simp] theorem State.setMode_link (m : Mode) : (s.setMode m).link = s.link := rfl
@[simp] theorem State.setMode_choices (m : Mode) : (s.setMode m).choices = s.choices := rfl
@[simp] theorem State.setMode_pending (m : Mode) : (s.setMode m).pending = s.pending := rfl

/-! ### `State.setTracker` -/

@[simp] theorem State.setTracker_airClock (id : Nat) (t : Tracker) : (s.setTracker id t).airClock =
    s.airClock := rfl
@[simp] theorem State.setTracker_sense (id : Nat) (t : Tracker) : (s.setTracker id t).sense = s.sense := rfl
@[simp] theorem State.setTracker_dwells (id : Nat) (t : Tracker) : (s.setTracker id t).dwells = s.dwells := rfl
@[simp] theorem State.setTracker_tracking (id : Nat) (t : Tracker) : (s.setTracker id t).tracking =
    { s.tracking with entries := s.tracking.entries.set id t } := rfl
@[simp] theorem State.setTracker_planner (id : Nat) (t : Tracker) : (s.setTracker id t).planner = s.planner := rfl
@[simp] theorem State.setTracker_escalation (id : Nat) (t : Tracker) : (s.setTracker id t).escalation =
    s.escalation := rfl
@[simp] theorem State.setTracker_control (id : Nat) (t : Tracker) : (s.setTracker id t).control = s.control := rfl
@[simp] theorem State.setTracker_link (id : Nat) (t : Tracker) : (s.setTracker id t).link = s.link := rfl
@[simp] theorem State.setTracker_choices (id : Nat) (t : Tracker) : (s.setTracker id t).choices = s.choices := rfl
@[simp] theorem State.setTracker_pending (id : Nat) (t : Tracker) : (s.setTracker id t).pending = s.pending := rfl

/-! ### `State.updateSeries` -/

@[simp] theorem State.updateSeries_airClock (id : Nat) (f : Series → Series) : (s.updateSeries id f).airClock =
    s.airClock := rfl
@[simp] theorem State.updateSeries_sense (id : Nat) (f : Series → Series) : (s.updateSeries id f).sense =
    s.sense := rfl
@[simp] theorem State.updateSeries_dwells (id : Nat) (f : Series → Series) : (s.updateSeries id f).dwells =
    s.dwells := rfl
@[simp] theorem State.updateSeries_tracking (id : Nat) (f : Series → Series) : (s.updateSeries id f).tracking =
    s.tracking := rfl
@[simp] theorem State.updateSeries_planner (id : Nat) (f : Series → Series) : (s.updateSeries id f).planner =
    { s.planner with series := s.planner.series.map (fun x => if x.id = id then f x else x) } := rfl
@[simp] theorem State.updateSeries_escalation (id : Nat) (f : Series → Series) : (s.updateSeries id f).escalation =
    s.escalation := rfl
@[simp] theorem State.updateSeries_control (id : Nat) (f : Series → Series) : (s.updateSeries id f).control =
    s.control := rfl
@[simp] theorem State.updateSeries_link (id : Nat) (f : Series → Series) : (s.updateSeries id f).link =
    s.link := rfl
@[simp] theorem State.updateSeries_choices (id : Nat) (f : Series → Series) : (s.updateSeries id f).choices =
    s.choices := rfl
@[simp] theorem State.updateSeries_pending (id : Nat) (f : Series → Series) : (s.updateSeries id f).pending =
    s.pending := rfl

/-! ### `State.quiet` -/

@[simp] theorem State.quiet_airClock : (s.quiet).airClock = s.airClock := rfl
@[simp] theorem State.quiet_sense : (s.quiet).sense = { s.sense with detector := .quiet Run.empty } := rfl
@[simp] theorem State.quiet_dwells : (s.quiet).dwells = s.dwells := rfl
@[simp] theorem State.quiet_tracking : (s.quiet).tracking = s.tracking := rfl
@[simp] theorem State.quiet_planner : (s.quiet).planner = s.planner := rfl
@[simp] theorem State.quiet_escalation : (s.quiet).escalation = s.escalation := rfl
@[simp] theorem State.quiet_control : (s.quiet).control = s.control := rfl
@[simp] theorem State.quiet_link : (s.quiet).link = s.link := rfl
@[simp] theorem State.quiet_choices : (s.quiet).choices = s.choices := rfl
@[simp] theorem State.quiet_pending : (s.quiet).pending = s.pending := rfl

/-! ### Operations that replace one block -/

@[simp] theorem handReport_airClock (k : ReportKind) (fs : List Byte) : (handReport k fs s).airClock =
    s.airClock := rfl
@[simp] theorem handReport_sense (k : ReportKind) (fs : List Byte) : (handReport k fs s).sense = s.sense := rfl
@[simp] theorem handReport_dwells (k : ReportKind) (fs : List Byte) : (handReport k fs s).dwells = s.dwells := rfl
@[simp] theorem handReport_tracking (k : ReportKind) (fs : List Byte) : (handReport k fs s).tracking =
    s.tracking := rfl
@[simp] theorem handReport_planner (k : ReportKind) (fs : List Byte) : (handReport k fs s).planner =
    s.planner := rfl
@[simp] theorem handReport_escalation (k : ReportKind) (fs : List Byte) : (handReport k fs s).escalation =
    s.escalation := rfl
@[simp] theorem handReport_control (k : ReportKind) (fs : List Byte) : (handReport k fs s).control =
    s.control := rfl
@[simp] theorem handReport_link (k : ReportKind) (fs : List Byte) : (handReport k fs s).link =
    s.link.hand k fs := rfl
@[simp] theorem handReport_choices (k : ReportKind) (fs : List Byte) : (handReport k fs s).choices =
    s.choices := rfl
@[simp] theorem handReport_pending (k : ReportKind) (fs : List Byte) : (handReport k fs s).pending =
    s.pending := rfl

@[simp] theorem placeReply_airClock (f : Frame) : (placeReply f s).airClock = s.airClock := rfl
@[simp] theorem placeReply_sense (f : Frame) : (placeReply f s).sense = s.sense := rfl
@[simp] theorem placeReply_dwells (f : Frame) : (placeReply f s).dwells = s.dwells := rfl
@[simp] theorem placeReply_tracking (f : Frame) : (placeReply f s).tracking = s.tracking := rfl
@[simp] theorem placeReply_planner (f : Frame) : (placeReply f s).planner = s.planner := rfl
@[simp] theorem placeReply_escalation (f : Frame) : (placeReply f s).escalation = s.escalation := rfl
@[simp] theorem placeReply_control (f : Frame) : (placeReply f s).control = s.control := rfl
@[simp] theorem placeReply_link (f : Frame) : (placeReply f s).link =
    { s.link with replies := s.link.replies ++ [f] } := rfl
@[simp] theorem placeReply_choices (f : Frame) : (placeReply f s).choices = s.choices := rfl
@[simp] theorem placeReply_pending (f : Frame) : (placeReply f s).pending = s.pending := rfl

@[simp] theorem countLinkError_airClock : (countLinkError s).airClock = s.airClock := rfl
@[simp] theorem countLinkError_sense : (countLinkError s).sense = s.sense := rfl
@[simp] theorem countLinkError_dwells : (countLinkError s).dwells = s.dwells := rfl
@[simp] theorem countLinkError_tracking : (countLinkError s).tracking = s.tracking := rfl
@[simp] theorem countLinkError_planner : (countLinkError s).planner = s.planner := rfl
@[simp] theorem countLinkError_escalation : (countLinkError s).escalation = s.escalation := rfl
@[simp] theorem countLinkError_control : (countLinkError s).control = s.control := rfl
@[simp] theorem countLinkError_link : (countLinkError s).link = s.link.countError := rfl
@[simp] theorem countLinkError_choices : (countLinkError s).choices = s.choices := rfl
@[simp] theorem countLinkError_pending : (countLinkError s).pending = s.pending := rfl

@[simp] theorem noteModeReply_airClock : (noteModeReply s).airClock = s.airClock := rfl
@[simp] theorem noteModeReply_sense : (noteModeReply s).sense = s.sense := rfl
@[simp] theorem noteModeReply_dwells : (noteModeReply s).dwells = s.dwells := rfl
@[simp] theorem noteModeReply_tracking : (noteModeReply s).tracking = s.tracking := rfl
@[simp] theorem noteModeReply_planner : (noteModeReply s).planner = s.planner := rfl
@[simp] theorem noteModeReply_escalation : (noteModeReply s).escalation = s.escalation := rfl
@[simp] theorem noteModeReply_control : (noteModeReply s).control =
    { s.control with modeReplies := s.control.modeReplies + 1 } := rfl
@[simp] theorem noteModeReply_link : (noteModeReply s).link = s.link := rfl
@[simp] theorem noteModeReply_choices : (noteModeReply s).choices = s.choices := rfl
@[simp] theorem noteModeReply_pending : (noteModeReply s).pending = s.pending := rfl

@[simp] theorem noteSameMode_airClock : (noteSameMode s).airClock = s.airClock := rfl
@[simp] theorem noteSameMode_sense : (noteSameMode s).sense = s.sense := rfl
@[simp] theorem noteSameMode_dwells : (noteSameMode s).dwells = s.dwells := rfl
@[simp] theorem noteSameMode_tracking : (noteSameMode s).tracking = s.tracking := rfl
@[simp] theorem noteSameMode_planner : (noteSameMode s).planner = s.planner := rfl
@[simp] theorem noteSameMode_escalation : (noteSameMode s).escalation = s.escalation := rfl
@[simp] theorem noteSameMode_control : (noteSameMode s).control =
    { s.control with modeReplies := if s.control.modeReplies = 0 then 0 else s.control.modeReplies + 1 } := rfl
@[simp] theorem noteSameMode_link : (noteSameMode s).link = s.link := rfl
@[simp] theorem noteSameMode_choices : (noteSameMode s).choices = s.choices := rfl
@[simp] theorem noteSameMode_pending : (noteSameMode s).pending = s.pending := rfl

@[simp] theorem amendModeReplies_airClock (m : Mode) : (amendModeReplies m s).airClock = s.airClock := rfl
@[simp] theorem amendModeReplies_sense (m : Mode) : (amendModeReplies m s).sense = s.sense := rfl
@[simp] theorem amendModeReplies_dwells (m : Mode) : (amendModeReplies m s).dwells = s.dwells := rfl
@[simp] theorem amendModeReplies_tracking (m : Mode) : (amendModeReplies m s).tracking = s.tracking := rfl
@[simp] theorem amendModeReplies_planner (m : Mode) : (amendModeReplies m s).planner = s.planner := rfl
@[simp] theorem amendModeReplies_escalation (m : Mode) : (amendModeReplies m s).escalation = s.escalation := rfl
@[simp] theorem amendModeReplies_control (m : Mode) : (amendModeReplies m s).control = s.control := rfl
@[simp] theorem amendModeReplies_link (m : Mode) : (amendModeReplies m s).link =
    s.link.amendModes s.control.modeReplies m := rfl
@[simp] theorem amendModeReplies_choices (m : Mode) : (amendModeReplies m s).choices = s.choices := rfl
@[simp] theorem amendModeReplies_pending (m : Mode) : (amendModeReplies m s).pending = s.pending := rfl

@[simp] theorem reform_airClock : (reform s).airClock = s.airClock := rfl
@[simp] theorem reform_sense : (reform s).sense = s.sense := rfl
@[simp] theorem reform_dwells : (reform s).dwells = s.dwells := rfl
@[simp] theorem reform_tracking : (reform s).tracking = s.tracking := rfl
@[simp] theorem reform_planner : (reform s).planner = { s.planner with lines := formedCode s } := rfl
@[simp] theorem reform_escalation : (reform s).escalation = s.escalation := rfl
@[simp] theorem reform_control : (reform s).control = s.control := rfl
@[simp] theorem reform_link : (reform s).link = s.link := rfl
@[simp] theorem reform_choices : (reform s).choices = s.choices := rfl
@[simp] theorem reform_pending : (reform s).pending = s.pending := rfl

@[simp] theorem drainScore_airClock : (drainScore s).airClock = s.airClock := rfl
@[simp] theorem drainScore_sense : (drainScore s).sense = s.sense := rfl
@[simp] theorem drainScore_dwells : (drainScore s).dwells = s.dwells := rfl
@[simp] theorem drainScore_tracking : (drainScore s).tracking = s.tracking := rfl
@[simp] theorem drainScore_planner : (drainScore s).planner = s.planner := rfl
@[simp] theorem drainScore_escalation : (drainScore s).escalation =
    { s.escalation with score := s.escalation.score - 1, drained := true } := rfl
@[simp] theorem drainScore_control : (drainScore s).control = s.control := rfl
@[simp] theorem drainScore_link : (drainScore s).link = s.link := rfl
@[simp] theorem drainScore_choices : (drainScore s).choices = s.choices := rfl
@[simp] theorem drainScore_pending : (drainScore s).pending = s.pending := rfl

@[simp] theorem found_receiver (l : Link) : l.found.receiver = l.receiver := rfl
@[simp] theorem found_waitHigh (l : Link) : l.found.waitHigh = l.waitHigh := rfl
@[simp] theorem found_rxdLow (l : Link) : l.found.rxdLow = l.rxdLow := rfl
@[simp] theorem found_inbox (l : Link) : l.found.inbox = l.inbox := rfl
@[simp] theorem found_replies (l : Link) : l.found.replies = l.replies := rfl
@[simp] theorem found_reports (l : Link) : l.found.reports = l.reports := rfl
@[simp] theorem found_sending (l : Link) : l.found.sending = l.sending := rfl
@[simp] theorem found_enables (l : Link) : l.found.enables = l.enables := rfl
@[simp] theorem found_lostPending (l : Link) : l.found.lostPending = l.lostPending := rfl
@[simp] theorem found_flags (l : Link) : l.found.flags = l.flags := rfl
@[simp] theorem found_errors (l : Link) : l.found.errors = l.errors := rfl
@[simp] theorem found_flagsBefore (l : Link) : l.found.flagsBefore = l.flags := rfl
@[simp] theorem found_errorsBefore (l : Link) : l.found.errorsBefore = l.errors := rfl

@[simp] theorem tick_airClock : (tick s).airClock = s.airClock + 1 := rfl
@[simp] theorem tick_sense : (tick s).sense = s.sense.leaving s.airClock s.planner.lines := rfl
@[simp] theorem tick_dwells : (tick s).dwells = s.dwells.observe s.sense.observing := rfl
@[simp] theorem tick_tracking : (tick s).tracking = s.tracking := rfl
@[simp] theorem tick_planner : (tick s).planner = s.planner := rfl
@[simp] theorem tick_escalation : (tick s).escalation = { s.escalation with drained := false } := rfl
@[simp] theorem tick_control : (tick s).control = { s.control with modeReplies := 0 } := rfl
@[simp] theorem tick_link : (tick s).link = s.link.found := rfl
@[simp] theorem tick_choices : (tick s).choices = s.choices := rfl
@[simp] theorem tick_pending : (tick s).pending = s.pending := rfl

end Sys2Proof.Machine
end

