-- ==== Sys2Proof/Laws/Planner.lean ====
section
/-! SUPPORT. What handing reports does to the link controller, and what the operations of the window planner can change:
the queue, the series table and the reports handed over, and nothing else. -/

namespace Sys2Proof.Machine

/-! ### Reports handed over (R190 to R192) -/

theorem Link.Handed.refl (l : Link) : l.Handed l := by
  constructor <;> first | rfl | exact id | exact ⟨[], by simp⟩

theorem Link.Handed.trans {l l' l'' : Link} (h : l.Handed l') (h' : l'.Handed l'') : l.Handed l'' := by
  obtain ⟨fs, hf⟩ := h.grows
  obtain ⟨gs, hg⟩ := h'.grows
  exact
    { receiver := h'.receiver.trans h.receiver, waitHigh := h'.waitHigh.trans h.waitHigh
      rxdLow := h'.rxdLow.trans h.rxdLow, inbox := h'.inbox.trans h.inbox, replies := h'.replies.trans h.replies
      sending := h'.sending.trans h.sending, enables := h'.enables.trans h.enables
      errors := h'.errors.trans h.errors, flagsBefore := h'.flagsBefore.trans h.flagsBefore
      errorsBefore := h'.errorsBefore.trans h.errorsBefore
      grows := ⟨fs ++ gs, by rw [hg, hf, List.append_assoc]⟩
      bounded := fun b => h'.bounded (h.bounded b)
      slipOvf := fun b => h'.slipOvf (h.slipOvf b)
      escalated := fun b => h'.escalated (h.escalated b)
      reportLost := fun b => h'.reportLost (h.reportLost b) }

/-- Handing a report only hands a report. -/
theorem Link.hand_handed (l : Link) (k : ReportKind) (fs : List Byte) : l.Handed (l.hand k fs) := by
  unfold Link.hand
  split
  · split
    · refine { Link.Handed.refl l with grows := ⟨_, rfl⟩, bounded := fun _ => ?_ }
      simp only [List.length_append, List.length_cons, List.length_nil]; omega
    · exact { Link.Handed.refl l with reportLost := fun _ => rfl }
  · exact Link.Handed.refl l

theorem Link.setSlipOvf_handed (l : Link) : l.Handed l.setSlipOvf :=
  { Link.Handed.refl l with slipOvf := fun _ => rfl }

theorem Link.setEscalated_handed (l : Link) : l.Handed l.setEscalated :=
  { Link.Handed.refl l with escalated := fun _ => rfl }

/-! ### What the planner's operations change -/

theorem PlannerStep.refl (s : State) : PlannerStep s s := by
  constructor <;> first | rfl | exact Link.Handed.refl _

theorem PlannerStep.trans {s t u : State} (h : PlannerStep s t) (h' : PlannerStep t u) : PlannerStep s u where
  airClock := h'.airClock.trans h.airClock
  sense := h'.sense.trans h.sense
  dwells := h'.dwells.trans h.dwells
  tracking := h'.tracking.trans h.tracking
  escalation := h'.escalation.trans h.escalation
  control := h'.control.trans h.control
  choices := h'.choices.trans h.choices
  pending := h'.pending.trans h.pending
  link := h.link.trans h'.link
  rules := h'.rules.trans h.rules
  loadThreshold := h'.loadThreshold.trans h.loadThreshold
  template := h'.template.trans h.template
  lines := h'.lines.trans h.lines
  reserveA := h'.reserveA.trans h.reserveA
  reserveB := h'.reserveB.trans h.reserveB

/-- A fold of operations of one kind is an operation of that kind. -/
theorem foldl_rel {α : Type} (R : State → State → Prop) (refl : ∀ s, R s s) (trans : ∀ {s t u}, R s t → R t u → R s u)
    (f : State → α → State) (step : ∀ s x, R s (f s x)) (xs : List α) (s : State) : R s (xs.foldl f s) := by
  induction xs generalizing s with
  | nil => exact refl s
  | cons x xs ih => exact trans (step s x) (ih (f s x))

theorem handReport_plannerStep (k : ReportKind) (fs : List Byte) (s : State) : PlannerStep s (handReport k fs s) :=
  { PlannerStep.refl s with link := Link.hand_handed s.link k fs }

theorem State.withQueue_plannerStep (s : State) (q : List Reservation) : PlannerStep s (s.withQueue q) :=
  { PlannerStep.refl s with }

theorem State.updateSeries_plannerStep (s : State) (id : Nat) (f : Series → Series) :
    PlannerStep s (s.updateSeries id f) :=
  { PlannerStep.refl s with }

theorem placeEntry_plannerStep (e : Reservation) (s : State) : PlannerStep s (placeEntry e s) :=
  s.withQueue_plannerStep _

theorem removeEntry_plannerStep (x : Instant) (s : State) : PlannerStep s (removeEntry x s) := s.withQueue_plannerStep _

theorem setEntryState_plannerStep (x : Instant) (st : EntryState) (s : State) : PlannerStep s (setEntryState x st s) :=
  s.withQueue_plannerStep _

theorem rebase_plannerStep (id : Nat) (cause : RebaseCause) (s : State) : PlannerStep s (rebase id cause s) := by
  unfold rebase
  split
  · exact PlannerStep.refl s
  · split
    · exact ((s.updateSeries_plannerStep id _).trans (placeEntry_plannerStep _ _)).trans (handReport_plannerStep _ _ _)
    · exact s.updateSeries_plannerStep id _

theorem tryOccurrence_plannerStep {x : Series} {s t : State} (h : tryOccurrence x s = some t) : PlannerStep s t := by
  unfold tryOccurrence at h
  simp only at h
  split at h
  · cases h; exact placeEntry_plannerStep _ _
  · cases h

theorem countSkip_plannerStep (id : Nat) (s : State) : PlannerStep s (countSkip id s) := s.updateSeries_plannerStep id _

theorem nextIndex_plannerStep (id : Nat) (s : State) : PlannerStep s (nextIndex id s) := s.updateSeries_plannerStep id _

theorem tryOccurrences_plannerStep (n id : Nat) (s : State) : PlannerStep s (tryOccurrences n id s) := by
  induction n generalizing s with
  | zero => exact PlannerStep.refl s
  | succ n ih =>
    unfold tryOccurrences
    split
    · exact PlannerStep.refl s
    · split
      · exact tryOccurrence_plannerStep ‹_›
      · split
        · exact ((countSkip_plannerStep id s).trans (nextIndex_plannerStep id _)).trans (ih _)
        · exact (countSkip_plannerStep id s).trans (rebase_plannerStep id _ _)

theorem skipOccurrence_plannerStep (id : Nat) (s : State) : PlannerStep s (skipOccurrence id s) := by
  unfold skipOccurrence
  split
  · exact PlannerStep.refl s
  · split
    · exact ((countSkip_plannerStep id s).trans (nextIndex_plannerStep id _)).trans (tryOccurrences_plannerStep _ _ _)
    · exact (countSkip_plannerStep id s).trans (rebase_plannerStep id _ _)

theorem recheck_plannerStep (x : Instant) (s : State) : PlannerStep s (recheck x s) := by
  unfold recheck
  split
  · exact PlannerStep.refl s
  · simp only
    split
    · exact setEntryState_plannerStep _ _ _
    · split
      · exact ((removeEntry_plannerStep x s).trans (placeEntry_plannerStep _ _)).trans (handReport_plannerStep _ _ _)
      · split
        · exact (removeEntry_plannerStep x s).trans (handReport_plannerStep _ _ _)
        · exact ((removeEntry_plannerStep x s).trans (handReport_plannerStep _ _ _)).trans
            (skipOccurrence_plannerStep _ _)

theorem retryIfHeld_plannerStep (s : State) (id : Nat) : PlannerStep s (retryIfHeld s id) := by
  unfold retryIfHeld
  split
  · split
    · exact rebase_plannerStep _ _ _
    · exact PlannerStep.refl s
  · exact PlannerStep.refl s

/-- A plan change changes the queue, the series table and the reports handed over, and nothing else (R132). -/
theorem planChange_plannerStep (s : State) : PlannerStep s (planChange s) :=
  (foldl_rel PlannerStep PlannerStep.refl PlannerStep.trans _ (fun s x => recheck_plannerStep x s) _ s).trans
    (foldl_rel PlannerStep PlannerStep.refl PlannerStep.trans _ retryIfHeld_plannerStep _ _)

theorem planChangeIf_plannerStep (b : Bool) (s : State) : PlannerStep s (planChangeIf b s) := by
  unfold planChangeIf
  split
  · exact planChange_plannerStep s
  · exact PlannerStep.refl s

theorem occurrenceOpened_plannerStep (id : Nat) (s : State) : PlannerStep s (occurrenceOpened id s) :=
  (s.updateSeries_plannerStep id _).trans (tryOccurrences_plannerStep _ _ _)

theorem openEntry_plannerStep (e : Reservation) (s : State) : PlannerStep s (openEntry e s) := by
  unfold openEntry
  simp only
  split
  · exact setEntryState_plannerStep _ _ _
  · exact (setEntryState_plannerStep _ _ _).trans (occurrenceOpened_plannerStep _ _)

theorem displaceAll_plannerStep (q : List Reservation) (s : State) :
    PlannerStep s (q.foldl (fun s e => displacedReport e .mode s) s) :=
  foldl_rel PlannerStep PlannerStep.refl PlannerStep.trans _ (fun _ _ => handReport_plannerStep _ _ _) q s

theorem suspendBookings_plannerStep (s : State) : PlannerStep s (suspendBookings s) :=
  (displaceAll_plannerStep s.planner.queue s).trans { PlannerStep.refl _ with }

theorem resumeBookings_plannerStep (s : State) : PlannerStep s (resumeBookings s) := by
  unfold resumeBookings
  refine PlannerStep.trans ?_ (foldl_rel PlannerStep PlannerStep.refl PlannerStep.trans _
    (fun _ _ => rebase_plannerStep _ _ _) _ _)
  exact { PlannerStep.refl s with }

theorem rebaseForChannel_plannerStep (s : State) : PlannerStep s (rebaseForChannel s) :=
  (s.withQueue_plannerStep []).trans
    (foldl_rel PlannerStep PlannerStep.refl PlannerStep.trans _ (fun _ _ => rebase_plannerStep _ _ _) _ _)

theorem emptyBookings_plannerStep (s : State) : PlannerStep s (emptyBookings s) := { PlannerStep.refl s with }

end Sys2Proof.Machine
end

