-- ==== Sys2Proof/Laws/Tracking.lean ====
section
/-! SUPPORT. What the operations of the tracking unit can change: the tracker entries, and with a plan-change notice the
queue, the series table and the reports handed over; nothing else. -/

namespace Sys2Proof.Machine

theorem PlannerStep.tracked {s t : State} (h : PlannerStep s t) : TrackingStep s t where
  airClock := h.airClock
  sense := h.sense
  dwells := h.dwells
  settings := by rw [h.tracking]
  size := by rw [h.tracking]
  escalation := h.escalation
  control := h.control
  choices := h.choices
  pending := h.pending
  link := h.link
  rules := h.rules
  loadThreshold := h.loadThreshold
  template := h.template
  lines := h.lines
  reserveA := h.reserveA
  reserveB := h.reserveB

theorem TrackingStep.refl (s : State) : TrackingStep s s := (PlannerStep.refl s).tracked

theorem TrackingStep.trans {s t u : State} (h : TrackingStep s t) (h' : TrackingStep t u) : TrackingStep s u where
  airClock := h'.airClock.trans h.airClock
  sense := h'.sense.trans h.sense
  dwells := h'.dwells.trans h.dwells
  settings := h'.settings.trans h.settings
  size := h'.size.trans h.size
  escalation := h'.escalation.trans h.escalation
  control := h'.control.trans h.control
  choices := h'.choices.trans h.choices
  pending := h'.pending.trans h.pending
  link := h.link.trans h'.link
  rules := h'.rules.trans h.rules
  loadThreshold := h'.loadThreshold.trans h.loadThreshold
  template := h'.template.trans h.template
  lines := h'.lines.trans h.lines
  reserveA := h'.reserveA.trans h.reserveA
  reserveB := h'.reserveB.trans h.reserveB

theorem State.setTracker_trackingStep (s : State) (id : Nat) (t : Tracker) : TrackingStep s (s.setTracker id t) :=
  { TrackingStep.refl s with size := by simp [State.setTracker, State.withTracking] }

theorem trackerReport_trackingStep (id : Nat) (k : TrackerKind) (a b : TrackerState) (c : TrackerCause) (s : State) :
    TrackingStep s (trackerReport id k a b c s) := (handReport_plannerStep _ _ s).tracked

/-- An entry replaced and then a report of it. -/
theorem setAndReport (s : State) (i j : Nat) (t : Tracker) (k : TrackerKind) (a b : TrackerState) (c : TrackerCause) :
    TrackingStep s (trackerReport i k a b c (s.setTracker j t)) :=
  (s.setTracker_trackingStep j t).trans (trackerReport_trackingStep _ _ _ _ _ _)

theorem setSlipOvf_trackingStep (s : State) : TrackingStep s (s.withLink s.link.setSlipOvf) :=
  { TrackingStep.refl s with link := s.link.setSlipOvf_handed }

theorem freeTracker_trackingStep (id : Nat) (c : TrackerCause) (s : State) : TrackingStep s (freeTracker id c s) :=
  setAndReport s _ _ _ _ _ _ _

theorem dropPending_trackingStep (id : Nat) (s : State) : TrackingStep s (dropPending id s) :=
  s.setTracker_trackingStep _ _

theorem acquiringHit_trackingStep (id : Nat) (t : Tracker) (r : BurstRecord) (s : State) :
    TrackingStep s (acquiringHit id t r s).1 := by
  unfold acquiringHit
  simp only
  split
  · exact setAndReport s _ _ _ _ _ _ _
  · exact s.setTracker_trackingStep _ _

theorem lockedHit_trackingStep (id : Nat) (t : Tracker) (r : BurstRecord) (s : State) :
    TrackingStep s (lockedHit id t r s).1 := by
  unfold lockedHit
  simp only
  split
  · exact (setAndReport s _ _ _ _ _ _ _).trans (setSlipOvf_trackingStep _)
  · exact s.setTracker_trackingStep _ _

theorem dormantHit_trackingStep (id : Nat) (t : Tracker) (r : BurstRecord) (s : State) :
    TrackingStep s (dormantHit id t r s).1 :=
  (setAndReport s _ _ _ _ _ _ _).trans (acquiringHit_trackingStep _ _ _ _)

theorem associate_trackingStep (id : Nat) (r : BurstRecord) (s : State) : TrackingStep s (associate id r s).1 := by
  unfold associate
  simp only
  split
  · exact s.setTracker_trackingStep _ _
  · split
    · exact acquiringHit_trackingStep _ _ _ _
    · exact lockedHit_trackingStep _ _ _ _
    · exact dormantHit_trackingStep _ _ _ _
    · exact TrackingStep.refl s
    · exact TrackingStep.refl s

theorem tryAnchor_trackingStep (r : BurstRecord) (s : State) : TrackingStep s (tryAnchor r s).1 := by
  unfold tryAnchor
  split
  · exact setAndReport s _ _ _ _ _ _ _
  · exact TrackingStep.refl s

theorem allocate_trackingStep {s t : State} {id : Nat} (h : allocate s = some (t, id)) : TrackingStep s t := by
  unfold allocate at h
  split at h
  · cases h; exact TrackingStep.refl s
  · split at h
    · cases h; exact freeTracker_trackingStep _ _ _
    · cases h

theorem candidateTest_trackingStep (r : BurstRecord) (s : State) : TrackingStep s (candidateTest r s).1 := by
  unfold candidateTest
  split
  · split
    · exact setAndReport s _ _ _ _ _ _ _
    · split
      · exact (allocate_trackingStep ‹_›).trans (setAndReport _ _ _ _ _ _ _ _)
      · exact TrackingStep.refl s
  · exact TrackingStep.refl s

theorem miss_trackingStep (id : Nat) (s : State) : TrackingStep s (miss id s).1 := by
  unfold miss
  simp only
  split
  · split
    · exact setAndReport s _ _ _ _ _ _ _
    · exact s.setTracker_trackingStep _ _
  · split
    · split
      · exact freeTracker_trackingStep _ _ _
      · exact setAndReport s _ _ _ _ _ _ _
    · exact s.setTracker_trackingStep _ _
  all_goals exact s.setTracker_trackingStep _ _

theorem settleAsMiss_trackingStep (id : Nat) (s : State) : TrackingStep s (settleAsMiss id s).1 :=
  (dropPending_trackingStep id s).trans (miss_trackingStep id _)

theorem settleByRecord_trackingStep (r : BurstRecord) (assoc : Option Nat) (p : Noticed) (id : Nat) :
    TrackingStep p.1 (settleByRecord r assoc p id).1 := by
  unfold settleByRecord
  split
  · split
    · split
      · exact dropPending_trackingStep _ _
      · exact settleAsMiss_trackingStep _ _
    · exact TrackingStep.refl _
  · exact TrackingStep.refl _

theorem sweepEntry_trackingStep (p : Noticed) (id : Nat) : TrackingStep p.1 (sweepEntry p id).1 := by
  unfold sweepEntry
  split
  · split
    · exact TrackingStep.refl _
    · exact settleAsMiss_trackingStep _ _
  · exact TrackingStep.refl _

/-- A fold that carries the mark of a notice. -/
theorem foldl_noticed {α : Type} (f : Noticed → α → Noticed) (step : ∀ p x, TrackingStep p.1 (f p x).1) (xs : List α)
    (p : Noticed) : TrackingStep p.1 (xs.foldl f p).1 := by
  induction xs generalizing p with
  | nil => exact TrackingStep.refl _
  | cons x xs ih => exact (step p x).trans (ih _)

theorem recordOutcome_trackingStep (r : BurstRecord) (s : State) : TrackingStep s (recordOutcome r s).1.1 := by
  unfold recordOutcome
  split
  · exact associate_trackingStep _ _ _
  · split
    · exact tryAnchor_trackingStep _ _
    · exact candidateTest_trackingStep _ _

/-- The tracking unit's taking of a record changes tracker entries, and the planner's bookings by a notice (R60, R84). -/
theorem trackRecord_trackingStep (r : BurstRecord) (s : State) : TrackingStep s (trackRecord r s).1 := by
  have settled := (recordOutcome_trackingStep r s).trans
    (foldl_noticed (settleByRecord r (recordOutcome r s).2) (settleByRecord_trackingStep r _) trackerIds _)
  simp only [trackRecord]
  generalize List.foldl (settleByRecord r (recordOutcome r s).2) (recordOutcome r s).1 trackerIds = p at settled ⊢
  exact settled.trans (planChangeIf_plannerStep _ _).tracked

/-- Settling the pending rises that nothing is held for changes only what the tracking unit can (R73). -/
theorem sweepPending_trackingStep (s : State) : TrackingStep s (sweepPending s) := by
  have swept := foldl_noticed sweepEntry sweepEntry_trackingStep trackerIds (s, false)
  simp only [sweepPending]
  generalize List.foldl sweepEntry (s, false) trackerIds = p at swept ⊢
  exact swept.trans (planChangeIf_plannerStep _ _).tracked

theorem retestRise_trackingStep (id : Nat) (s : State) : TrackingStep s (retestRise id s).1 := by
  unfold retestRise
  simp only
  split
  · exact TrackingStep.refl s
  · split
    · split
      · exact s.setTracker_trackingStep _ _
      · exact settleAsMiss_trackingStep _ _
    · exact dropPending_trackingStep _ _

theorem testNextRise_trackingStep (id : Nat) (s : State) : TrackingStep s (testNextRise id s).1 := by
  unfold testNextRise
  simp only
  split
  · split
    · exact (s.setTracker_trackingStep _ _).trans (State.setTracker_trackingStep _ _ _)
    · exact (s.setTracker_trackingStep _ _).trans (miss_trackingStep _ _)
  · exact s.setTracker_trackingStep _ _

theorem decideRise_trackingStep (id : Nat) (s : State) : TrackingStep s (decideRise id s).1 := by
  unfold decideRise
  split
  · exact retestRise_trackingStep id s
  · exact testNextRise_trackingStep id s

theorem ageTracker_trackingStep (id : Nat) (s : State) : TrackingStep s (ageTracker id s).1 := by
  unfold ageTracker
  simp only
  split
  · exact setAndReport s _ _ _ _ _ _ _
  · split
    · exact freeTracker_trackingStep _ _ _
    · exact setAndReport s _ _ _ _ _ _ _
  all_goals exact TrackingStep.refl s

theorem ageDormant_trackingStep (id : Nat) (s : State) : TrackingStep s (ageDormant id s).1 := by
  unfold ageDormant
  simp only
  split
  · exact freeTracker_trackingStep _ _ _
  · exact setAndReport s _ _ _ _ _ _ _

/-- A change of the tracking unit with its notice (R84). -/
theorem noticed_trackingStep {f : State → Noticed} (step : ∀ s, TrackingStep s (f s).1) (s : State) :
    TrackingStep s (noticed f s) :=
  (step s).trans (planChangeIf_plannerStep _ _).tracked

theorem freeCandidates_trackingStep (s : State) : TrackingStep s (freeCandidates s) :=
  foldl_rel TrackingStep TrackingStep.refl TrackingStep.trans _
    (fun s id => by
      split
      · exact freeTracker_trackingStep id _ s
      · exact TrackingStep.refl s) _ s

theorem applyMissLimit_trackingStep (s : State) : TrackingStep s (applyMissLimit s) :=
  foldl_rel TrackingStep TrackingStep.refl TrackingStep.trans _
    (fun s id => by
      split
      · exact setAndReport s _ _ _ _ _ _ _
      · exact TrackingStep.refl s) _ s

theorem dropAllPending_trackingStep (s : State) : TrackingStep s (dropAllPending s) :=
  { TrackingStep.refl s with size := by simp [dropAllPending, State.withTracking] }

theorem relearnEntry_trackingStep (p : Noticed) (id : Nat) : TrackingStep p.1 (relearnEntry p id).1 := by
  unfold relearnEntry
  simp only
  split
  · exact setAndReport _ _ _ _ _ _ _ _
  · exact TrackingStep.refl _

theorem relearn_trackingStep (s : State) : TrackingStep s (relearn s) := by
  have demoted := foldl_noticed relearnEntry relearnEntry_trackingStep trackerIds (s, false)
  simp only [relearn]
  generalize List.foldl relearnEntry (s, false) trackerIds = p at demoted ⊢
  exact demoted.trans (planChangeIf_plannerStep _ _).tracked

end Sys2Proof.Machine
end

