-- ==== Sys2Proof/Laws/Air.lean ====
section
/-! SUPPORT. What the events of the air can change. Nothing that the sense receiver, the dwell scheduler, the tracking
unit and the escalation unit do by themselves touches the air clock, the queue of commands, the settings of the tracking
unit, of the escalation unit and of the planner, the operating channel or the inbox; and of the frames in the reply queue
and on TXD only the mode in a reply can change. -/

namespace Sys2Proof.Machine

/-! ### Replies that carry a mode (R173) -/

theorem Frame.Reworded.refl (f : Frame) : f.Reworded f := Or.inl rfl

theorem Frame.withMode_repliesMode {f : Frame} (h : f.repliesMode = true) (m : Mode) :
    (f.withMode m).repliesMode = true := by
  have hf := of_decide_eq_true h
  exact decide_eq_true ⟨hf.1, rfl⟩

theorem Frame.Reworded.trans {f g k : Frame} (h : f.Reworded g) (h' : g.Reworded k) : f.Reworded k := by
  rcases h with rfl | ⟨hf, m, rfl⟩
  · exact h'
  · rcases h' with rfl | ⟨_, m', rfl⟩
    · exact Or.inr ⟨hf, m, rfl⟩
    · exact Or.inr ⟨hf, m', rfl⟩

theorem reworded_refl (fs : List Frame) : List.Forall₂ Frame.Reworded fs fs := by
  induction fs with
  | nil => exact .nil
  | cons f fs ih => exact .cons (Frame.Reworded.refl f) ih

theorem reworded_trans {fs gs ks : List Frame} (h : List.Forall₂ Frame.Reworded fs gs)
    (h' : List.Forall₂ Frame.Reworded gs ks) : List.Forall₂ Frame.Reworded fs ks := by
  induction h generalizing ks with
  | nil => exact h'
  | cons a _ ih => cases h' with | cons b bs => exact .cons (a.trans b) (ih bs)

/-- Reports handed over and flags set leave the replies as they are. -/
theorem Link.Handed.aired {l l' : Link} (h : l.Handed l') : l.Aired l' :=
  { receiver := h.receiver, waitHigh := h.waitHigh, rxdLow := h.rxdLow, inbox := h.inbox
    replies := by rw [h.replies]; exact reworded_refl _
    busy := fun b => by rw [h.sending, b]
    sending := fun x b => ⟨x.frame, Frame.Reworded.refl _, by rw [h.sending, b]⟩
    enables := h.enables, errors := h.errors, flagsBefore := h.flagsBefore
    errorsBefore := h.errorsBefore, grows := h.grows, bounded := h.bounded, slipOvf := h.slipOvf
    escalated := h.escalated, reportLost := h.reportLost }

theorem Link.Aired.trans {l l' l'' : Link} (h : l.Aired l') (h' : l'.Aired l'') : l.Aired l'' := by
  obtain ⟨fs, hf⟩ := h.grows
  obtain ⟨gs, hg⟩ := h'.grows
  exact
    { receiver := h'.receiver.trans h.receiver, waitHigh := h'.waitHigh.trans h.waitHigh
      rxdLow := h'.rxdLow.trans h.rxdLow, inbox := h'.inbox.trans h.inbox
      replies := reworded_trans h.replies h'.replies
      busy := fun b => h'.busy (h.busy b)
      sending := fun x b => by
        obtain ⟨f, hf, hs⟩ := h.sending x b
        obtain ⟨g, hg, ht⟩ := h'.sending _ hs
        exact ⟨g, hf.trans hg, ht⟩
      enables := h'.enables.trans h.enables, errors := h'.errors.trans h.errors
      flagsBefore := h'.flagsBefore.trans h.flagsBefore, errorsBefore := h'.errorsBefore.trans h.errorsBefore
      grows := ⟨fs ++ gs, by rw [hg, hf, List.append_assoc]⟩
      bounded := fun b => h'.bounded (h.bounded b)
      slipOvf := fun b => h'.slipOvf (h.slipOvf b)
      escalated := fun b => h'.escalated (h.escalated b)
      reportLost := fun b => h'.reportLost (h.reportLost b) }

/-- Rewording the replies of the present instant rewords replies that carry a mode, and nothing else. -/
theorem amendLast_reworded (n : Nat) (m : Mode) (fs : List Frame) :
    List.Forall₂ Frame.Reworded fs (amendLast n m fs).2 := by
  induction fs with
  | nil => exact .nil
  | cons f fs ih =>
    simp only [amendLast]
    split
    · rename_i h
      rw [Bool.and_eq_true] at h
      exact .cons (Or.inr ⟨h.2, m, rfl⟩) ih
    · exact .cons (Frame.Reworded.refl f) ih

/-- With no reply of a mode to reword, the frames stay as they are. -/
theorem amendLast_zero (m : Mode) (fs : List Frame) : amendLast 0 m fs = (0, fs) := by
  induction fs with
  | nil => rfl
  | cons f fs ih => simp only [amendLast, ih, Nat.lt_irrefl, decide_false, Bool.false_and, Bool.false_eq_true, if_false]

theorem Link.amendModes_zero (l : Link) (m : Mode) : l.amendModes 0 m = l := by
  simp only [Link.amendModes, amendLast_zero, Nat.lt_irrefl, decide_false, Bool.false_and, Bool.false_eq_true, if_false,
    Option.map_id']

theorem Link.amendModes_aired (l : Link) (n : Nat) (m : Mode) : l.Aired (l.amendModes n m) :=
  { (Link.Handed.refl l).aired with
    replies := amendLast_reworded n m l.replies
    busy := fun b => by simp only [Link.amendModes, b, Option.map_none]
    sending := fun x b => by
      simp only [Link.amendModes, b, Option.map_some]
      split
      · rename_i h
        rw [Bool.and_eq_true] at h
        exact ⟨x.frame.withMode m, Or.inr ⟨h.2, m, rfl⟩, rfl⟩
      · exact ⟨x.frame, Frame.Reworded.refl _, rfl⟩ }

/-! ### Steps of the air -/

theorem TrackingStep.air {s t : State} (h : TrackingStep s t) : AirStep s t where
  airClock := h.airClock
  operating := by rw [h.dwells]
  recordCount := by rw [h.dwells]
  settings := h.settings
  size := h.size
  threshold := by rw [h.escalation]
  policy := by rw [h.escalation]
  drained := by rw [h.escalation]
  mark := by rw [h.control]
  reset := by rw [h.control]
  choices := h.choices
  pending := h.pending
  link := h.link.aired
  rules := h.rules
  loadThreshold := h.loadThreshold
  template := h.template
  reserveA := h.reserveA
  reserveB := h.reserveB

theorem PlannerStep.air {s t : State} (h : PlannerStep s t) : AirStep s t := h.tracked.air

theorem AirStep.refl (s : State) : AirStep s s := (TrackingStep.refl s).air

theorem AirStep.trans {s t u : State} (h : AirStep s t) (h' : AirStep t u) : AirStep s u where
  airClock := h'.airClock.trans h.airClock
  operating := h'.operating.trans h.operating
  recordCount := h'.recordCount.trans h.recordCount
  settings := h'.settings.trans h.settings
  size := h'.size.trans h.size
  threshold := h'.threshold.trans h.threshold
  policy := h'.policy.trans h.policy
  drained := h'.drained.trans h.drained
  mark := h'.mark.trans h.mark
  reset := h'.reset.trans h.reset
  choices := h'.choices.trans h.choices
  pending := h'.pending.trans h.pending
  link := h.link.trans h'.link
  rules := h'.rules.trans h.rules
  loadThreshold := h'.loadThreshold.trans h.loadThreshold
  template := h'.template.trans h.template
  reserveA := h'.reserveA.trans h.reserveA
  reserveB := h'.reserveB.trans h.reserveB

theorem reform_air (s : State) : AirStep s (reform s) := { AirStep.refl s with }

theorem withSense_air (s : State) (x : Sense) : AirStep s (s.withSense x) := { AirStep.refl s with }

theorem handReport_air (k : ReportKind) (fs : List Byte) (s : State) : AirStep s (handReport k fs s) :=
  (handReport_plannerStep k fs s).air

/-! ### Changes of mode and escalations -/

/-- A change among the running modes sets the mode and leaves the sense receiver, the dwell scheduler and the tracker
table as they are (R170). -/
theorem changeMode_mode (m : Mode) (s : State) : (changeMode m s).control.mode = m := by
  unfold changeMode
  simp only
  split
  · rfl
  · split
    · exact congrArg Control.mode (suspendBookings_plannerStep _).control
    · split
      · exact congrArg Control.mode (resumeBookings_plannerStep _).control
      · split
        · exact congrArg Control.mode (planChange_plannerStep _).control
        · rfl

/-- What a change among the running modes does after it has set the mode and the lines (R170). -/
theorem changeMode_plannerStep (m : Mode) (s : State) : PlannerStep (reform (s.setMode m)) (changeMode m s) := by
  unfold changeMode
  simp only
  split
  · exact PlannerStep.refl _
  · split
    · exact suspendBookings_plannerStep _
    · split
      · exact resumeBookings_plannerStep _
      · split
        · exact planChange_plannerStep _
        · exact PlannerStep.refl _

theorem setMode_air (m : Mode) (s : State) : AirStep s (s.setMode m) := { AirStep.refl s with }

theorem changeMode_air (m : Mode) (s : State) : AirStep s (changeMode m s) :=
  ((setMode_air m s).trans (reform_air _)).trans (changeMode_plannerStep m s).air

theorem amendModeReplies_air (m : Mode) (s : State) : AirStep s (amendModeReplies m s) :=
  { AirStep.refl s with link := Link.amendModes_aired _ _ _ }

theorem escalateMode_air (m : Mode) (s : State) : AirStep s (escalateMode m s).1 := by
  simp only [escalateMode, modeReport]
  exact ((changeMode_air m s).trans (amendModeReplies_air m _)).trans (handReport_air _ _ _)

theorem applyPolicy_air (s : State) : AirStep s (applyPolicy s).1 := by
  unfold applyPolicy
  split
  · exact AirStep.refl s
  · dsimp only
    exact (relearn_trackingStep s).air
  · exact escalateMode_air _ s
  · exact escalateMode_air _ s

/-- An escalation changes the score, the fault record, the mode, the entries and the bookings (R155). -/
theorem escalate_air (r : BurstRecord) (s : State) : AirStep s (escalate r s) := by
  unfold escalate
  simp only
  have score : AirStep s (s.withEscalation { s.escalation with score := 0 }) := { AirStep.refl s with }
  have policy := applyPolicy_air (s.withEscalation { s.escalation with score := 0 })
  generalize applyPolicy (s.withEscalation { s.escalation with score := 0 }) = out at policy ⊢
  have fault : AirStep out.1 (fillFault s r out.2 out.1) := { AirStep.refl out.1 with }
  have flag : AirStep (fillFault s r out.2 out.1)
      ((fillFault s r out.2 out.1).withLink (fillFault s r out.2 out.1).link.setEscalated) :=
    { AirStep.refl _ with link := (Link.setEscalated_handed _).aired }
  exact (((score.trans policy).trans fault).trans flag).trans (handReport_air _ _ _)

theorem escalationTest_air (r : BurstRecord) (assoc : Option Nat) (s : State) : AirStep s (escalationTest r assoc s) := by
  unfold escalationTest
  split
  · unfold countSurprise
    simp only
    have score : AirStep s (s.withEscalation { s.escalation with score := saturate 15 s.escalation.score }) :=
      { AirStep.refl s with }
    split
    · exact score.trans (escalate_air _ _)
    · exact score
  · exact AirStep.refl s

/-! ### The sense receiver -/

theorem dwellTakes_air (r : BurstRecord) (assoc : Option Nat) (s : State) : AirStep s (dwellTakes r assoc s) :=
  { AirStep.refl s with }

/-- The delivery of a record (R28). -/
theorem deliver_air (r : BurstRecord) (s : State) : AirStep s (deliver r s) := by
  unfold deliver
  simp only
  have tracked := (trackRecord_trackingStep r s).air
  generalize trackRecord r s = out at tracked ⊢
  exact (tracked.trans (escalationTest_air _ _ _)).trans (dwellTakes_air _ _ _)

theorem withHeld_air (s : State) (h : Option HeldRecord) : AirStep s (s.withHeld h) := withSense_air s _

theorem quiet_air (s : State) : AirStep s s.quiet := withSense_air s _

theorem hold_air (r : BurstRecord) (s : State) : AirStep s (hold r s) := by
  unfold hold
  simp only
  split
  · exact (withHeld_air s _).trans (deliver_air _ _)
  · exact withHeld_air s _

theorem assemble_air (r : BurstRecord) (s : State) : AirStep s (assemble r s) := by
  unfold assemble
  split
  · exact deliver_air _ _
  · split
    · exact hold_air _ _
    · split
      · exact hold_air _ _
      · exact ((withHeld_air s _).trans (deliver_air _ _)).trans (hold_air _ _)

theorem releaseHeld_air (s : State) : AirStep s (releaseHeld s) := by
  unfold releaseHeld
  split
  · exact (withHeld_air s _).trans (deliver_air _ _)
  · exact AirStep.refl s

theorem releaseOverdue_air (s : State) : AirStep s (releaseOverdue s) := by
  unfold releaseOverdue
  split
  · split
    · exact releaseHeld_air s
    · exact AirStep.refl s
  · exact AirStep.refl s

theorem sweepPending_air (s : State) : AirStep s (sweepPending s) := (sweepPending_trackingStep s).air

theorem cutLongBurst_air (s : State) : AirStep s (cutLongBurst s) := by
  unfold cutLongBurst
  split
  · exact AirStep.refl s
  · exact (((withSense_air s _).trans (assemble_air _ _)).trans (releaseOverdue_air _)).trans (sweepPending_air _)

theorem readInBurst_air (below : Nat) (b : Burst) (i : Instant) (above : Bool) (s : State) :
    AirStep s (readInBurst below b i above s) := by
  unfold readInBurst
  split
  · exact withSense_air s _
  · split
    · exact (withSense_air s _).trans (assemble_air _ _)
    · exact withSense_air s _

/-- A reading (R15 to R19). -/
theorem takeReading_air (level : Int) (preamble : Bool) (s : State) : AirStep s (takeReading level preamble s) := by
  unfold takeReading
  simp only
  refine AirStep.trans ?_ (sweepPending_air _)
  refine AirStep.trans ?_ (releaseOverdue_air _)
  refine AirStep.trans (withSense_air s { s.sense with readingTaken := true }) ?_
  split
  · exact withSense_air _ _
  · exact readInBurst_air _ _ _ _ _

theorem breakObservation_air (s : State) : AirStep s (breakObservation s) := by
  unfold breakObservation
  simp only
  refine AirStep.trans ?_ (sweepPending_air _)
  refine AirStep.trans ?_ (releaseOverdue_air _)
  refine AirStep.trans (withSense_air s { s.sense with detector := .quiet Run.empty, observedSince := none }) ?_
  split
  · exact assemble_air _ _
  · exact AirStep.refl _

theorem startBlanking_air (s : State) : AirStep s (startBlanking s) := by
  unfold startBlanking
  split
  · exact (withSense_air s _).trans (breakObservation_air _)
  · exact withSense_air s _

theorem senseDwellStart_air (c : Nat) (s : State) : AirStep s (senseDwellStart c s) := by
  unfold senseDwellStart
  simp only
  split
  · exact (withSense_air s _).trans (withSense_air _ _)
  · exact ((withSense_air s _).trans (withSense_air _ _)).trans (withSense_air _ _)

/-- The releases of a dwell end (R26). -/
theorem senseDwellEnd_air (s : State) : AirStep s (senseDwellEnd s) := by
  unfold senseDwellEnd
  simp only
  refine AirStep.trans ?_ (sweepPending_air _)
  refine AirStep.trans (withHeld_air s none) (AirStep.trans (quiet_air _) ?_)
  split
  · exact AirStep.refl _
  · exact deliver_air _ _
  · exact deliver_air _ _
  · split
    · exact deliver_air _ _
    · exact (deliver_air _ _).trans (deliver_air _ _)

/-! ### The dwell scheduler -/

theorem startDwell_air (k : DwellKind) (c len : Nat) (s : State) : AirStep s (startDwell k c len s) := by
  unfold startDwell
  refine AirStep.trans ?_ (senseDwellStart_air c _)
  exact { AirStep.refl s with }

theorem startOperating_air (s : State) : AirStep s (startOperating s) := by
  unfold startOperating
  split
  · exact { AirStep.refl s with }
  · exact AirStep.trans (t := s.withDwells { s.dwells with group := 0, forceOperating := false })
      { AirStep.refl s with } (startDwell_air _ _ _ _)

theorem startSequenceDwell_air (s : State) : AirStep s (startSequenceDwell s) := by
  unfold startSequenceDwell
  split
  · exact startOperating_air s
  · split
    · exact startOperating_air s
    · rename_i place c _
      exact AirStep.trans
        (t := s.withDwells { s.dwells with pointer := place + 1, group := s.dwells.group + 1 })
        { AirStep.refl s with } (startDwell_air _ _ _ _)

theorem startSurveyDwell_air (s : State) : AirStep s (startSurveyDwell s) :=
  AirStep.trans (t := s.withDwells { s.dwells with survey := { s.dwells.survey with phase := .dwelling } })
    { AirStep.refl s with } (startDwell_air _ _ _ _)

theorem applyPlan_air (s : State) : AirStep s (applyPlan s) := by
  unfold applyPlan
  split
  · exact { AirStep.refl s with }
  · exact AirStep.refl s

theorem startNextDwell_air (b : Bool) (s : State) : AirStep s (startNextDwell b s) := by
  unfold startNextDwell
  simp only
  split
  · exact (applyPlan_air s).trans (startSurveyDwell_air _)
  · exact (applyPlan_air s).trans (startSequenceDwell_air _)

theorem updateRecord_air (d : Dwell) (s : State) : AirStep s (updateRecord d s) := by
  unfold updateRecord
  split
  · exact { AirStep.refl s with recordCount := by simp }
  · exact AirStep.refl s

theorem withAdvice_air (s : State) (a : Advice) : AirStep s (s.withAdvice a) := { AirStep.refl s with }

theorem adviceTest_air (s : State) : AirStep s (adviceTest s) := by
  unfold adviceTest
  split
  · split
    · split
      · exact (handReport_air _ _ s).trans (withAdvice_air _ _)
      · exact withAdvice_air _ _
    · exact AirStep.refl s
  · exact withAdvice_air _ _

theorem endCycle_air (s : State) : AirStep s (endCycle s) :=
  AirStep.trans (t := s.withDwells { s.dwells with pointer := 0, forceOperating := true }) { AirStep.refl s with }
    (adviceTest_air _)

theorem finishSurvey_air (d : Dwell) (s : State) : AirStep s (finishSurvey d s) :=
  (handReport_air _ _ s).trans { AirStep.refl _ with }

theorem abortSurvey_air (s : State) : AirStep s (abortSurvey s) := by
  unfold abortSurvey
  split
  · exact AirStep.refl s
  · exact (handReport_air _ _ s).trans { AirStep.refl _ with }

theorem afterDwell_air (d : Dwell) (s : State) : AirStep s (afterDwell d s) := by
  unfold afterDwell
  split
  · exact finishSurvey_air d s
  · split
    · exact endCycle_air s
    · exact AirStep.refl s
  · split
    · exact endCycle_air s
    · exact AirStep.refl s

theorem closeDwell_air (s : State) : AirStep s (closeDwell s) := by
  unfold closeDwell
  simp only
  split
  · exact (senseDwellEnd_air s).trans (updateRecord_air _ _)
  · exact senseDwellEnd_air s

/-- A dwell end and the next dwell's start (R43). -/
theorem endDwell_air (s : State) : AirStep s (endDwell s) := by
  unfold endDwell
  simp only
  refine AirStep.trans ?_ (startNextDwell_air _ _)
  refine (closeDwell_air s).trans ?_
  split
  · exact afterDwell_air _ _
  · exact AirStep.refl _

theorem cutDwell_air (s : State) : AirStep s (cutDwell s) := by
  unfold cutDwell
  split
  · exact AirStep.refl s
  · split
    · exact AirStep.refl s
    · exact (closeDwell_air s).trans (startNextDwell_air _ _)
    · exact (closeDwell_air s).trans (startNextDwell_air _ _)

/-- A change of channel changes, once O has its new value, only what an event of the air can (R34, R35, R80, R147). -/
theorem changeChannel_air (c : Nat) (s : State) : AirStep (takeChannel c s) (changeChannel c s) :=
  (((rebaseForChannel_plannerStep _).air.trans (cutDwell_air _)).trans (freeCandidates_trackingStep _).air).trans
    (planChange_plannerStep _).air

theorem beginSequence_air (s : State) : AirStep s (beginSequence s) := by
  unfold beginSequence
  simp only
  exact (applyPlan_air s).trans
    (AirStep.trans (t := (applyPlan s).withDwells { (applyPlan s).dwells with pointer := 0, advice := Advice.rearmed })
      { AirStep.refl _ with } (startOperating_air _))

end Sys2Proof.Machine
end

