-- ==== Sys2Proof/Laws/Delivery.lean ====
section
/-! SUPPORT. What the release and delivery of records leave as it was: all of the sense receiver but the held record, and
all of the dwell scheduler but the counts of the current dwell and the survey's tracker list. -/

namespace Sys2Proof.Machine

/-- A change that leaves the sense receiver and the dwell scheduler alone. -/
theorem AirStep.delivery {s t : State} (air : AirStep s t) (sense : t.sense = s.sense) (dwells : t.dwells = s.dwells) :
    DeliveryStep s t :=
  { air := air, sense := by rw [sense], dwells := by rw [dwells], current := by rw [dwells] }

theorem TrackingStep.delivery {s t : State} (h : TrackingStep s t) : DeliveryStep s t :=
  h.air.delivery h.sense h.dwells

theorem DeliveryStep.refl (s : State) : DeliveryStep s s := (AirStep.refl s).delivery rfl rfl

theorem DeliveryStep.trans {s t u : State} (h : DeliveryStep s t) (h' : DeliveryStep t u) : DeliveryStep s u where
  air := h.air.trans h'.air
  sense := by rw [h'.sense, h.sense]
  dwells := by rw [h'.dwells, h.dwells]
  current := h'.current.trans h.current

theorem withHeld_delivery (s : State) (h : Option HeldRecord) : DeliveryStep s (s.withHeld h) :=
  { air := withHeld_air s h, sense := rfl, dwells := rfl, current := rfl }

/-! ### Escalations leave the two blocks alone -/

theorem changeMode_delivery (m : Mode) (s : State) : DeliveryStep s (changeMode m s) :=
  (changeMode_air m s).delivery (changeMode_plannerStep m s).sense (changeMode_plannerStep m s).dwells

theorem escalateMode_delivery (m : Mode) (s : State) : DeliveryStep s (escalateMode m s).1 :=
  ((changeMode_delivery m s).trans ((amendModeReplies_air m _).delivery rfl rfl)).trans
    ((handReport_air _ _ _).delivery rfl rfl)

theorem applyPolicy_delivery (s : State) : DeliveryStep s (applyPolicy s).1 := by
  unfold applyPolicy
  split
  · exact DeliveryStep.refl s
  · dsimp only
    exact (relearn_trackingStep s).delivery
  · exact escalateMode_delivery _ s
  · exact escalateMode_delivery _ s

theorem escalate_delivery (r : BurstRecord) (s : State) : DeliveryStep s (escalate r s) := by
  unfold escalate
  simp only
  have score : AirStep s (s.withEscalation { s.escalation with score := 0 }) := { AirStep.refl s with }
  have policy := applyPolicy_delivery (s.withEscalation { s.escalation with score := 0 })
  generalize applyPolicy (s.withEscalation { s.escalation with score := 0 }) = out at policy ⊢
  have fault : AirStep out.1 (fillFault s r out.2 out.1) := { AirStep.refl out.1 with }
  have flag : AirStep (fillFault s r out.2 out.1)
      ((fillFault s r out.2 out.1).withLink (fillFault s r out.2 out.1).link.setEscalated) :=
    { AirStep.refl _ with link := (Link.setEscalated_handed _).aired }
  exact (((score.delivery rfl rfl).trans policy).trans ((fault.trans flag).delivery rfl rfl)).trans
    ((handReport_air _ _ _).delivery rfl rfl)

theorem escalationTest_delivery (r : BurstRecord) (assoc : Option Nat) (s : State) :
    DeliveryStep s (escalationTest r assoc s) := by
  unfold escalationTest
  split
  · unfold countSurprise
    simp only
    have score : AirStep s (s.withEscalation { s.escalation with score := saturate 15 s.escalation.score }) :=
      { AirStep.refl s with }
    split
    · exact (score.delivery rfl rfl).trans (escalate_delivery _ _)
    · exact score.delivery rfl rfl
  · exact DeliveryStep.refl s

/-! ### Delivery, assembly and releases -/

/-- Counting a record in a dwell changes its counts alone (R45). -/
theorem Dwell.count_uncounted (d : Dwell) (r : BurstRecord) : (d.count r).uncounted = d.uncounted := by
  unfold Dwell.count
  split <;> rfl

/-- The survey's list of trackers is all that a record can change of the survey (R54). -/
theorem Survey.noted_eq (v : Survey) (assoc : Option Nat) : v.noted assoc = { v with trackers := (v.noted assoc).trackers } := by
  unfold Survey.noted
  split
  · split <;> rfl
  all_goals rfl

theorem dwellTakes_delivery (r : BurstRecord) (assoc : Option Nat) (s : State) : DeliveryStep s (dwellTakes r assoc s) where
  air := dwellTakes_air r assoc s
  sense := rfl
  dwells := by
    unfold dwellTakes
    simp only [State.withDwells_dwells]
    rw [← Survey.noted_eq]
  current := by
    simp only [dwellTakes, State.withDwells_dwells, Option.map_map]
    congr 1
    funext d
    exact d.count_uncounted r

/-- The delivery of a record (R28). -/
theorem deliver_delivery (r : BurstRecord) (s : State) : DeliveryStep s (deliver r s) := by
  unfold deliver
  simp only
  have tracked := (trackRecord_trackingStep r s).delivery
  generalize trackRecord r s = out at tracked ⊢
  exact (tracked.trans (escalationTest_delivery _ _ _)).trans (dwellTakes_delivery _ _ _)

theorem hold_delivery (r : BurstRecord) (s : State) : DeliveryStep s (hold r s) := by
  unfold hold
  simp only
  split
  · exact (withHeld_delivery s _).trans (deliver_delivery _ _)
  · exact withHeld_delivery s _

/-- The burst assembler's taking of a burst (R23). -/
theorem assemble_delivery (r : BurstRecord) (s : State) : DeliveryStep s (assemble r s) := by
  unfold assemble
  split
  · exact deliver_delivery _ _
  · split
    · exact hold_delivery _ _
    · split
      · exact hold_delivery _ _
      · exact ((withHeld_delivery s _).trans (deliver_delivery _ _)).trans (hold_delivery _ _)

theorem releaseHeld_delivery (s : State) : DeliveryStep s (releaseHeld s) := by
  unfold releaseHeld
  split
  · exact (withHeld_delivery s _).trans (deliver_delivery _ _)
  · exact DeliveryStep.refl s

theorem releaseOverdue_delivery (s : State) : DeliveryStep s (releaseOverdue s) := by
  unfold releaseOverdue
  split
  · split
    · exact releaseHeld_delivery s
    · exact DeliveryStep.refl s
  · exact DeliveryStep.refl s

theorem sweepPending_delivery (s : State) : DeliveryStep s (sweepPending s) := (sweepPending_trackingStep s).delivery

/-- The releases and settlements that follow an event of the sense receiver (R24, R73). -/
theorem followUp_delivery (s : State) : DeliveryStep s (sweepPending (releaseOverdue s)) :=
  (releaseOverdue_delivery s).trans (sweepPending_delivery _)

end Sys2Proof.Machine
end

