-- ==== Sys2Proof/Laws/Link.lean ====
section
/-! SUPPORT. What the link controller does with a request that it can take at once, with a reply placed, and with the
transmitter. -/

namespace Sys2Proof.Machine

/-! ### Fields -/

/-- A 16-bit field read back from its two bytes. -/
theorem half_le16 (h : Half) : half (h.setWidth 8) ((h >>> 8).setWidth 8) = h := by
  apply BitVec.eq_of_toNat_eq
  have := h.isLt
  simp only [half, BitVec.toNat_append, BitVec.toNat_setWidth, BitVec.toNat_ushiftRight, Nat.shiftRight_eq_div_pow]
  rw [← Nat.shiftLeft_add_eq_or_of_lt (by omega), Nat.shiftLeft_eq]
  omega

theorem RequestKind.ofByte_code (k : RequestKind) : RequestKind.ofByte k.code = some k := by
  cases k <;> decide

/-! ### The levels of TXD (R181) -/

@[simp] theorem characterLevels_length (b : Byte) : (characterLevels b).length = 10 := rfl

@[simp] theorem Frame.bytes_length (f : Frame) : f.bytes.length = f.payload.length + 5 := by
  simp [Frame.bytes, Frame.covered]

/-- Ten levels a byte. -/
theorem flatMap_characterLevels_length (bs : List Byte) : (bs.flatMap characterLevels).length = 10 * bs.length := by
  induction bs with
  | nil => rfl
  | cons b bs ih => simp only [List.flatMap_cons, List.length_append, characterLevels_length, List.length_cons, ih]; omega

/-- A frame has one level for each microsecond that it occupies TXD. -/
@[simp] theorem Frame.levels_length (f : Frame) : f.levels.length = f.lineTime := by
  simp only [Frame.levels, flatMap_characterLevels_length, Frame.bytes_length, Frame.lineTime]

/-- Level `j` of byte `i` stands at place `10 * i + j` among the levels of a run of bytes. -/
theorem flatMap_characterLevels_getElem? (bs : List Byte) (i j : Nat) (hj : j < 10) :
    (bs.flatMap characterLevels)[10 * i + j]? = bs[i]?.bind (fun b => (characterLevels b)[j]?) := by
  induction bs generalizing i with
  | nil => rfl
  | cons b bs ih =>
    cases i with
    | zero =>
      rw [List.flatMap_cons, List.getElem?_append_left (by simp; omega)]
      simp
    | succ i =>
      rw [List.flatMap_cons, List.getElem?_append_right (by simp; omega)]
      simpa [show 10 * (i + 1) + j - 10 = 10 * i + j by omega] using ih i

/-- In reset TXD is high. -/
theorem txd_held {s : State} (h : s.control.hold.isSome = true) : s.txd = true := by simp [State.txd, h]

/-- A FREE transmitter leaves TXD high. -/
theorem txd_free {s : State} (h : s.link.sending = none) : s.txd = true := by
  unfold State.txd
  split <;> simp [h]

/-- Out of reset TXD shows the frame in transmission, from the instant it began. -/
theorem txd_sending {s : State} {x : Sending} (run : Running s) (h : s.link.sending = some x) :
    s.txd = x.frame.levels.getD (Instant.elapsed (Instant.minus x.endsAt x.frame.lineTime) s.airClock) true := by
  have hold : s.control.hold = none := run
  simp [State.txd, hold, h]

/-! ### The transmitter (R189) -/

/-- A busy transmitter is not disturbed. -/
theorem pump_busy {s : State} {x : Sending} (h : s.link.sending = some x) : pump s = s := by
  simp only [pump, h]

/-- A FREE transmitter begins the oldest waiting reply. -/
theorem pump_reply {s : State} {f : Frame} {rest : List Frame} (h : s.link.sending = none)
    (hr : s.link.replies = f :: rest) :
    pump s = s.withLink { s.link with
      replies := rest, sending := some { frame := f, endsAt := Instant.plus s.airClock f.lineTime } } := by
  simp only [pump, h, hr]

/-- A FREE transmitter begins the oldest waiting report when no reply waits. -/
theorem pump_report {s : State} {f : Frame} {rest : List Frame} (h : s.link.sending = none) (hr : s.link.replies = [])
    (hp : s.link.reports = f :: rest) :
    pump s = s.withLink { s.link with
      reports := rest, sending := some { frame := f, endsAt := Instant.plus s.airClock f.lineTime } } := by
  simp only [pump, h, hr, hp]

/-- A FREE transmitter with both queues empty stays FREE. -/
theorem pump_idle {s : State} (h : s.link.sending = none) (hr : s.link.replies = []) (hp : s.link.reports = []) :
    pump s = s := by
  simp only [pump, h, hr, hp]

/-- The transmitter changes the link controller's two outbound queues and itself, and nothing else. -/
theorem pump_eq (s : State) :
    pump s = s.withLink { s.link with
      replies := (pump s).link.replies, reports := (pump s).link.reports, sending := (pump s).link.sending } := by
  unfold pump
  split
  · rfl
  · split
    · rfl
    · split <;> rfl

@[simp] theorem pump_airClock (s : State) : (pump s).airClock = s.airClock := by rw [pump_eq]; rfl
@[simp] theorem pump_sense (s : State) : (pump s).sense = s.sense := by rw [pump_eq]; rfl
@[simp] theorem pump_dwells (s : State) : (pump s).dwells = s.dwells := by rw [pump_eq]; rfl
@[simp] theorem pump_tracking (s : State) : (pump s).tracking = s.tracking := by rw [pump_eq]; rfl
@[simp] theorem pump_planner (s : State) : (pump s).planner = s.planner := by rw [pump_eq]; rfl
@[simp] theorem pump_escalation (s : State) : (pump s).escalation = s.escalation := by rw [pump_eq]; rfl
@[simp] theorem pump_control (s : State) : (pump s).control = s.control := by rw [pump_eq]; rfl
@[simp] theorem pump_choices (s : State) : (pump s).choices = s.choices := by rw [pump_eq]; rfl
@[simp] theorem pump_pending (s : State) : (pump s).pending = s.pending := by rw [pump_eq]; rfl

/-! ### A request taken at once (R187, R188) -/

/-- Taking a frame of a defined kind: its block's answer, and the reply placed. -/
theorem takeFrame_request (k : RequestKind) (ticket : Byte) (payload : List Byte) (s : State) :
    takeFrame (requestFrame k ticket payload) s
      = answered (k.code + 0x80#8) ticket (serveKind k payload s).2 (serveKind k payload s).1 := by
  simp only [takeFrame, serve, requestFrame, RequestKind.ofByte_code, answered, replyFrame]

/-- A request that arrives when the part is ready is taken at once, and what its block leaves is the next state, with the
reply placed and the transmitter offered it. -/
theorem arrive_ready (k : RequestKind) (ticket : Byte) (payload : List Byte) {s : State} (h : Ready s) :
    arrive k ticket payload s
      = .next (answered (k.code + 0x80#8) ticket (serveKind k payload s).2 (serveKind k payload s).1) := by
  obtain ⟨hold, mark, inbox, replies⟩ := h
  have empty : s.withLink { s.link with inbox := [] } = s := by
    cases s with
    | mk a b c d e f g l => cases l; simp only at inbox; subst inbox; rfl
  have take : mayTake (s.withLink { s.link with inbox := [requestFrame k ticket payload] }) = true := by
    simp [mayTake, mark, replies]
  have served : serveInbox (s.withLink { s.link with inbox := [requestFrame k ticket payload] })
      = takeFrame (requestFrame k ticket payload) (s.withLink { s.link with inbox := [] }) := by
    simp only [serveInbox, takeFrames, State.withLink_link, List.length_cons, List.length_nil, take, if_true]
    rfl
  simp only [arrive, outOfReset, hold, Option.isNone_none, if_true, requestArrives, mark, Option.isSome_none,
    Bool.false_eq_true, if_false, acceptFrame, inbox, List.length_nil, Nat.zero_lt_succ, List.nil_append, served, empty,
    takeFrame_request]

/-- The same, with the answer of the request's block given. -/
theorem arrive_answer {k : RequestKind} {ticket kind : Byte} {payload fields : List Byte} {s t : State} (h : Ready s)
    (replied : k.code + 0x80#8 = kind) (answer : serveKind k payload s = (t, fields)) :
    arrive k ticket payload s = .next (answered kind ticket fields t) := by
  rw [arrive_ready k ticket payload h, replied, answer]

/-- A request that arrives while a restart waits is dropped, without a reply (R175). -/
theorem arrive_marked (k : RequestKind) (ticket : Byte) (payload : List Byte) {s : State} {r : RestartKind}
    (h : s.control.mark = some r) : arrive k ticket payload s = .next s := by
  simp [arrive, outOfReset, requestArrives, h]

/-- A command that the part takes only out of reset does nothing in reset (R12). -/
theorem outOfReset_held (f : State → State) {s : State} {w : ResetHold} (h : s.control.hold = some w) :
    outOfReset f s = .next s := by
  simp [outOfReset, h]

/-- Out of reset it has its effect. -/
theorem outOfReset_running (f : State → State) {s : State} (h : Running s) : outOfReset f s = .next (f s) := by
  have h : s.control.hold = none := h
  simp [outOfReset, h]

end Sys2Proof.Machine
end

