-- ==== Sys2Proof/Laws/Events.lean ====
section
/-! SUPPORT. What an event does, said once: its effect when it is due, and nothing when it is not. -/

namespace Sys2Proof.Machine

theorem whenDue_taken {due : State → Bool} (f : State → State) {s : State} (h : due s = true) :
    whenDue due f s = f s := by
  rw [whenDue, if_pos h]

theorem whenDue_skipped {due : State → Bool} (f : State → State) {s : State} (h : due s = false) :
    whenDue due f s = s := by
  rw [whenDue, if_neg (by simp [h])]

/-- An event that is due, out of reset: its effect, then the lines re-formed and the transmitter offered what waits. -/
theorem event_taken {due : State → Bool} (f : State → State) {s : State} (r : Running s) (h : due s = true) :
    event due f s = .next (pump (reform (f s))) := by
  rw [event, outOfReset_running _ r, whenDue_taken _ h, settle]

/-- An event that is not due changes nothing. -/
theorem event_skipped {due : State → Bool} (f : State → State) {s : State} (h : due s = false) :
    event due f s = .next s := by
  rw [event, outOfReset, whenDue_skipped _ h, ite_self]

/-- An event without a re-forming of the lines that is due, out of reset. -/
theorem effect_taken {due : State → Bool} (f : State → State) {s : State} (r : Running s) (h : due s = true) :
    outOfReset (whenDue due f) s = .next (f s) := by
  rw [outOfReset_running _ r, whenDue_taken _ h]

/-- Such an event that is not due changes nothing. -/
theorem effect_skipped {due : State → Bool} (f : State → State) {s : State} (h : due s = false) :
    outOfReset (whenDue due f) s = .next s := by
  rw [outOfReset, whenDue_skipped _ h, ite_self]

end Sys2Proof.Machine
end

