-- ==== Sys2Proof/Laws/Requests.lean ====
section
/-! SUPPORT. The request commands as frames, the reports handed over by a state of the enables, and the effect of a warm
restart, each said once. -/

namespace Sys2Proof.Machine

/-! ### A request command is the arrival of its frame -/

/-- The answer of a request's block, read back as the two parts of what the step leaves. -/
theorem arrive_served {k : RequestKind} {ticket kind : Byte} {payload : List Byte}
    {s : State} {a : Answer} (h : Ready s)
    (replied : k.code + 0x80#8 = kind) (answer : serveKind k payload s = a) :
    arrive k ticket payload s = .next (answered kind ticket a.2 a.1) := by
  rw [arrive_ready k ticket payload h, replied, answer]

theorem ident_served {s : State} (h : Ready s) (t : Byte) :
    exec (.ident t) s = .next (answered 0x81 t (requestIdent s).2 (requestIdent s).1) :=
  arrive_served h rfl rfl

theorem status_served {s : State} (h : Ready s) (t : Byte) :
    exec (.status t) s = .next (answered 0x82 t (requestStatus s).2 (requestStatus s).1) :=
  arrive_served h rfl rfl

theorem time_served {s : State} (h : Ready s) (t : Byte) :
    exec (.time t) s = .next (answered 0x83 t (requestTime s).2 (requestTime s).1) :=
  arrive_served h rfl rfl

theorem setReports_served {s : State} (h : Ready s) (t : Byte) (e : Byte) :
    exec (.setReports t e) s = .next (answered 0x84 t (requestSetReports e s).2 (requestSetReports e s).1) :=
  arrive_served h rfl rfl

theorem clearFlags_served {s : State} (h : Ready s) (t : Byte) (f c : Byte) :
    exec (.clearFlags t f c) s = .next (answered 0x85 t (requestClearFlags f c s).2 (requestClearFlags f c s).1) :=
  arrive_served h rfl rfl

theorem restart_served {s : State} (h : Ready s) (t : Byte) (k : Byte) :
    exec (.restart t k) s = .next (answered 0x86 t (requestRestart k s).2 (requestRestart k s).1) :=
  arrive_served h rfl rfl

theorem start_served {s : State} (h : Ready s) (t : Byte) (m : Byte) :
    exec (.start t m) s = .next (answered 0x88 t (requestStart m s).2 (requestStart m s).1) :=
  arrive_served h rfl rfl

theorem stop_served {s : State} (h : Ready s) (t : Byte) :
    exec (.stop t) s = .next (answered 0x89 t (requestStop s).2 (requestStop s).1) :=
  arrive_served h rfl rfl

theorem setMode_served {s : State} (h : Ready s) (t : Byte) (m : Byte) :
    exec (.setMode t m) s = .next (answered 0x8A t (requestSetMode m s).2 (requestSetMode m s).1) :=
  arrive_served h rfl rfl

theorem resume_served {s : State} (h : Ready s) (t : Byte) :
    exec (.resume t) s = .next (answered 0x8B t (requestResume s).2 (requestResume s).1) :=
  arrive_served h rfl rfl

theorem setDetect_served {s : State} (h : Ready s) (t : Byte) (th st : Byte) (tail gap : Half) :
    exec (.setDetect t th st tail gap) s
      = .next (answered 0x90 t (requestSetDetect th st tail gap s).2 (requestSetDetect th st tail gap s).1) :=
  arrive_served h rfl (by
    show requestSetDetect th st (half _ _) (half _ _) s = _
    simp only [half_le16])

theorem setChannel_served {s : State} (h : Ready s) (t : Byte) (c : Byte) :
    exec (.setChannel t c) s = .next (answered 0x92 t (requestSetChannel c s).2 (requestSetChannel c s).1) :=
  arrive_served h rfl rfl

theorem survey_served {s : State} (h : Ready s) (t : Byte) (c : Byte) (d : Half) :
    exec (.survey t c d) s = .next (answered 0x93 t (requestSurvey c d s).2 (requestSurvey c d s).1) :=
  arrive_served h rfl (by
    show requestSurvey c (half _ _) s = _
    simp only [half_le16])

theorem readChannels_served {s : State} (h : Ready s) (t : Byte) :
    exec (.readChannels t) s = .next (answered 0x94 t (requestReadChannels s).2 (requestReadChannels s).1) :=
  arrive_served h rfl rfl

theorem ranking_served {s : State} (h : Ready s) (t : Byte) :
    exec (.ranking t) s = .next (answered 0x95 t (requestRanking s).2 (requestRanking s).1) :=
  arrive_served h rfl rfl

theorem declareBeacon_served {s : State} (h : Ready s) (t : Byte) (c : Byte) (i a : Half) :
    exec (.declareBeacon t c i a) s
      = .next (answered 0x98 t (requestDeclareBeacon c i a s).2 (requestDeclareBeacon c i a s).1) :=
  arrive_served h rfl (by
    show requestDeclareBeacon c (half _ _) (half _ _) s = _
    simp only [half_le16])

theorem forget_served {s : State} (h : Ready s) (t : Byte) (id : Byte) :
    exec (.forget t id) s = .next (answered 0x99 t (requestForget id s).2 (requestForget id s).1) :=
  arrive_served h rfl rfl

theorem readTracker_served {s : State} (h : Ready s) (t : Byte) (id : Byte) :
    exec (.readTracker t id) s = .next (answered 0x9A t (requestReadTracker id s).2 (requestReadTracker id s).1) :=
  arrive_served h rfl rfl

theorem setTracking_served {s : State} (h : Ready s) (t : Byte) (g b : Half) (r : Byte) (c : Half) (l m : Byte) :
    exec (.setTracking t g b r c l m) s
      = .next (answered 0x9B t (requestSetTracking g b r c l m s).2 (requestSetTracking g b r c l m s).1) :=
  arrive_served h rfl (by
    show requestSetTracking (half _ _) (half _ _) r (half _ _) l m s = _
    simp only [half_le16])

theorem readRules_served {s : State} (h : Ready s) (t : Byte) :
    exec (.readRules t) s = .next (answered 0xA1 t (requestReadRules s).2 (requestReadRules s).1) :=
  arrive_served h rfl rfl

theorem dropTemplate_served {s : State} (h : Ready s) (t : Byte) :
    exec (.dropTemplate t) s = .next (answered 0xA3 t (requestDropTemplate s).2 (requestDropTemplate s).1) :=
  arrive_served h rfl rfl

theorem book_served {s : State} (h : Ready s) (t : Byte) (l g : Byte) (len e d : Half) :
    exec (.book t l g len e d) s
      = .next (answered 0xA8 t (requestBook l g len e d s).2 (requestBook l g len e d s).1) :=
  arrive_served h rfl (by
    show requestBook l g (half _ _) (half _ _) (half _ _) s = _
    simp only [half_le16])

theorem cancel_served {s : State} (h : Ready s) (t : Byte) (l g : Byte) :
    exec (.cancel t l g) s = .next (answered 0xA9 t (requestCancel l g s).2 (requestCancel l g s).1) :=
  arrive_served h rfl rfl

theorem seriesOpen_served {s : State} (h : Ready s) (t : Byte) (l g : Byte) (p len j : Half) :
    exec (.seriesOpen t l g p len j) s
      = .next (answered 0xAA t (requestSeriesOpen l g p len j s).2 (requestSeriesOpen l g p len j s).1) :=
  arrive_served h rfl (by
    show requestSeriesOpen l g (half _ _) (half _ _) (half _ _) s = _
    simp only [half_le16])

theorem seriesClose_served {s : State} (h : Ready s) (t : Byte) (l g : Byte) :
    exec (.seriesClose t l g) s = .next (answered 0xAB t (requestSeriesClose l g s).2 (requestSeriesClose l g s).1) :=
  arrive_served h rfl rfl

theorem setLanes_served {s : State} (h : Ready s) (t : Byte) (a b : Byte) :
    exec (.setLanes t a b) s = .next (answered 0xAC t (requestSetLanes a b s).2 (requestSetLanes a b s).1) :=
  arrive_served h rfl rfl

theorem readBookings_served {s : State} (h : Ready s) (t : Byte) (q : Byte) :
    exec (.readBookings t q) s = .next (answered 0xAD t (requestReadBookings q s).2 (requestReadBookings q s).1) :=
  arrive_served h rfl rfl

theorem setEscalation_served {s : State} (h : Ready s) (t : Byte) (th q : Byte) :
    exec (.setEscalation t th q) s
      = .next (answered 0xB0 t (requestSetEscalation th q s).2 (requestSetEscalation th q s).1) :=
  arrive_served h rfl rfl

theorem readFault_served {s : State} (h : Ready s) (t : Byte) :
    exec (.readFault t) s = .next (answered 0xB1 t (requestReadFault s).2 (requestReadFault s).1) :=
  arrive_served h rfl rfl

theorem clearFault_served {s : State} (h : Ready s) (t : Byte) :
    exec (.clearFault t) s = .next (answered 0xB2 t (requestClearFault s).2 (requestClearFault s).1) :=
  arrive_served h rfl rfl

theorem armTemplate_served {s : State} (h : Ready s) (t : Byte) (m : Option Half) :
    exec (.armTemplate t m) s = .next (answered 0xA2 t (requestArmTemplate m s).2 (requestArmTemplate m s).1) := by
  cases m with
  | none => exact arrive_served h rfl rfl
  | some m =>
    exact arrive_served h rfl (by
      show requestArmTemplate (some (half _ _)) s = _
      simp only [half_le16])

theorem setScan_served {s : State} (h : Ready s) (t count : Byte) (cs : List Byte) (i : Byte) (o f m : Half)
    (agree : count.toNat = cs.length) :
    exec (.setScan t count cs i o f m) s
      = .next (answered 0x91 t (requestSetScan cs i o f m s).2 (requestSetScan cs i o f m s).1) :=
  arrive_served h rfl (by
    show serveSetScan count (cs ++ [i] ++ le16 o ++ le16 f ++ le16 m) s = _
    have size : (cs ++ [i] ++ le16 o ++ le16 f ++ le16 m).length = count.toNat + 7 := by simp [le16, agree]
    have fields : (cs ++ [i] ++ le16 o ++ le16 f ++ le16 m).drop count.toNat = [i] ++ le16 o ++ le16 f ++ le16 m := by
      simp [agree]
    have list : (cs ++ [i] ++ le16 o ++ le16 f ++ le16 m).take count.toNat = cs := by simp [agree]
    simp only [serveSetScan, size, fields, list, if_true]
    simp only [le16, List.cons_append, List.nil_append, half_le16])

theorem setScan_wrongLength {s : State} (h : Ready s) (t count : Byte) (cs : List Byte) (i : Byte) (o f m : Half)
    (differ : count.toNat ≠ cs.length) :
    exec (.setScan t count cs i o f m) s = .next (answered 0x91 t [0x10] s) :=
  arrive_answer h rfl (by
    show serveSetScan count (cs ++ [i] ++ le16 o ++ le16 f ++ le16 m) s = _
    have size : (cs ++ [i] ++ le16 o ++ le16 f ++ le16 m).length ≠ count.toNat + 7 := by
      simp only [le16, List.length_append, List.length_cons, List.length_nil]; omega
    simp only [serveSetScan, size, if_false]
    rfl)

theorem ruleTriples_flatMap (rs : List RuleBytes) : ruleTriples (rs.flatMap ruleLine) = rs := by
  induction rs with
  | nil => rfl
  | cons r rs ih => simp only [List.flatMap_cons, ruleLine, List.cons_append, List.nil_append, ruleTriples, ih]

theorem ruleLines_length (rs : List RuleBytes) : (rs.flatMap ruleLine).length = 3 * rs.length := by
  induction rs with
  | nil => rfl
  | cons r rs ih =>
    simp only [List.flatMap_cons, List.length_append, ih, ruleLine, List.length_cons, List.length_nil]; omega

theorem setRules_served {s : State} (h : Ready s) (t count : Byte) (rs : List RuleBytes) (th : Half)
    (agree : count.toNat = rs.length) :
    exec (.setRules t count rs th) s
      = .next (answered 0xA0 t (requestSetRules rs th s).2 (requestSetRules rs th s).1) :=
  arrive_served h rfl (by
    show serveSetRules count (rs.flatMap ruleLine ++ le16 th) s = _
    have bytes := ruleLines_length rs
    have size : (rs.flatMap ruleLine ++ le16 th).length = 3 * count.toNat + 2 := by
      simp only [List.length_append, bytes, le16, List.length_cons, List.length_nil, agree]
    have fields : (rs.flatMap ruleLine ++ le16 th).drop (3 * count.toNat) = le16 th := by
      rw [agree, ← bytes, List.drop_left]
    have list : (rs.flatMap ruleLine ++ le16 th).take (3 * count.toNat) = rs.flatMap ruleLine := by
      rw [agree, ← bytes, List.take_left]
    simp only [serveSetRules, size, fields, list, if_true, ruleTriples_flatMap]
    simp only [le16, half_le16])

theorem setRules_wrongLength {s : State} (h : Ready s) (t count : Byte) (rs : List RuleBytes) (th : Half)
    (differ : count.toNat ≠ rs.length) :
    exec (.setRules t count rs th) s = .next (answered 0xA0 t [0x10] s) :=
  arrive_answer h rfl (by
    show serveSetRules count (rs.flatMap ruleLine ++ le16 th) s = _
    have size : (rs.flatMap ruleLine ++ le16 th).length ≠ 3 * count.toNat + 2 := by
      simp only [List.length_append, ruleLines_length, le16, List.length_cons, List.length_nil]; omega
    simp only [serveSetRules, size, if_false]
    rfl)

/-- The frame that an arriving request stands for has the effect of the command. -/
def IsArrival (c : Instr) (f : Frame) : Prop :=
  ∃ k ticket payload, f = requestFrame k ticket payload ∧ ∀ s, exec c s = arrive k ticket payload s

/-- Every request command is the arrival of its frame. -/
theorem requestOf_arrival {c : Instr} {f : Frame} (h : requestOf c = some f) : IsArrival c f := by
  cases c
  case ident => cases h; exact ⟨.ident, _, _, rfl, fun _ => rfl⟩
  case status => cases h; exact ⟨.status, _, _, rfl, fun _ => rfl⟩
  case time => cases h; exact ⟨.time, _, _, rfl, fun _ => rfl⟩
  case setReports => cases h; exact ⟨.setReports, _, _, rfl, fun _ => rfl⟩
  case clearFlags => cases h; exact ⟨.clearFlags, _, _, rfl, fun _ => rfl⟩
  case restart => cases h; exact ⟨.restart, _, _, rfl, fun _ => rfl⟩
  case start => cases h; exact ⟨.start, _, _, rfl, fun _ => rfl⟩
  case stop => cases h; exact ⟨.stop, _, _, rfl, fun _ => rfl⟩
  case setMode => cases h; exact ⟨.setMode, _, _, rfl, fun _ => rfl⟩
  case resume => cases h; exact ⟨.resume, _, _, rfl, fun _ => rfl⟩
  case setDetect => cases h; exact ⟨.setDetect, _, _, rfl, fun _ => rfl⟩
  case setScan => cases h; exact ⟨.setScan, _, _, by simp [requestFrame, RequestKind.code], fun _ => rfl⟩
  case setChannel => cases h; exact ⟨.setChannel, _, _, rfl, fun _ => rfl⟩
  case survey => cases h; exact ⟨.survey, _, _, rfl, fun _ => rfl⟩
  case readChannels => cases h; exact ⟨.readChannels, _, _, rfl, fun _ => rfl⟩
  case ranking => cases h; exact ⟨.ranking, _, _, rfl, fun _ => rfl⟩
  case declareBeacon => cases h; exact ⟨.declareBeacon, _, _, rfl, fun _ => rfl⟩
  case forget => cases h; exact ⟨.forget, _, _, rfl, fun _ => rfl⟩
  case readTracker => cases h; exact ⟨.readTracker, _, _, rfl, fun _ => rfl⟩
  case setTracking => cases h; exact ⟨.setTracking, _, _, rfl, fun _ => rfl⟩
  case setRules => cases h; exact ⟨.setRules, _, _, rfl, fun _ => rfl⟩
  case readRules => cases h; exact ⟨.readRules, _, _, rfl, fun _ => rfl⟩
  case armTemplate t m =>
    cases m
    · cases h; exact ⟨.armTemplate, _, _, rfl, fun _ => rfl⟩
    · cases h; exact ⟨.armTemplate, _, _, rfl, fun _ => rfl⟩
  case dropTemplate => cases h; exact ⟨.dropTemplate, _, _, rfl, fun _ => rfl⟩
  case book => cases h; exact ⟨.book, _, _, rfl, fun _ => rfl⟩
  case cancel => cases h; exact ⟨.cancel, _, _, rfl, fun _ => rfl⟩
  case seriesOpen => cases h; exact ⟨.seriesOpen, _, _, rfl, fun _ => rfl⟩
  case seriesClose => cases h; exact ⟨.seriesClose, _, _, rfl, fun _ => rfl⟩
  case setLanes => cases h; exact ⟨.setLanes, _, _, rfl, fun _ => rfl⟩
  case readBookings => cases h; exact ⟨.readBookings, _, _, rfl, fun _ => rfl⟩
  case setEscalation => cases h; exact ⟨.setEscalation, _, _, rfl, fun _ => rfl⟩
  case readFault => cases h; exact ⟨.readFault, _, _, rfl, fun _ => rfl⟩
  case clearFault => cases h; exact ⟨.clearFault, _, _, rfl, fun _ => rfl⟩
  all_goals cases h

/-! ### A report handed over, by cases (R190, R191) -/

theorem Link.hand_disabled {l : Link} {k : ReportKind} (fs : List Byte) (h : l.enables.getLsbD k.bit = false) :
    l.hand k fs = l := by
  simp only [Link.hand, h, Bool.false_eq_true, if_false]

theorem Link.hand_queued {l : Link} {k : ReportKind} (fs : List Byte) (h : l.enables.getLsbD k.bit = true)
    (room : l.reports.length < 16) :
    l.hand k fs = { l with reports := l.reports ++ [reportFrame k l.lostPending fs], lostPending := false } := by
  simp only [Link.hand, h, room, if_true]

theorem Link.hand_lost {l : Link} {k : ReportKind} (fs : List Byte) (h : l.enables.getLsbD k.bit = true)
    (full : 16 ≤ l.reports.length) :
    l.hand k fs = { l with lostPending := true, flags := { l.flags with reportLost := true } } := by
  simp only [Link.hand, h, if_true, if_neg (Nat.not_lt.mpr full)]

/-! ### A warm restart (R174, R176, R178, R179) -/

theorem Tracker.warm_warmed (t : Tracker) : t.warmed t.warm := by
  unfold Tracker.warmed Tracker.warm
  rcases t with ⟨k, st⟩
  cases st <;> cases k <;> simp [Tracker.keptDormant, Tracker.asDormant, Tracker.asUnanchored]

theorem tracker_warm {s t : State} (h : t.tracking = s.tracking.warm) {id : Nat}
    (bound : id < s.tracking.entries.length) : t.tracker id = (s.tracker id).warm := by
  simp [State.tracker, h, Tracking.warm, List.getD_eq_getElem?_getD, bound]

/-- A warm restart with MODE enabled: the restart values, and the MODE report on TXD. -/
theorem warmRestart_reported (c : ModeCause) {s : State} (h : s.link.enables.getLsbD 0 = true) :
    pump (warmRestart c s) = { s with
      sense := s.sense.warm, dwells := s.dwells.warm, tracking := s.tracking.warm, planner := s.planner.warm
      escalation := s.escalation.warm, control := Control.restarted
      link := { s.link.warm with
        sending := some
          { frame := { kind := 0xC0, ticket := 0, payload := [0, s.control.mode.code, 0, c.code] ++ le32 s.airClock }
            endsAt := s.airClock + 130 } } } := by
  have one : s.link.warm.reports.length < 16 := Nat.zero_lt_succ _
  simp only [warmRestart, modeReport, handReport, Link.hand_queued (l := s.link.warm) (k := .mode) _ h one]
  rfl

/-- A warm restart with MODE disabled. -/
theorem warmRestart_silent (c : ModeCause) {s : State} (h : s.link.enables.getLsbD 0 = false) :
    pump (warmRestart c s) = { s with
      sense := s.sense.warm, dwells := s.dwells.warm, tracking := s.tracking.warm, planner := s.planner.warm
      escalation := s.escalation.warm, control := Control.restarted, link := s.link.warm } := by
  simp only [warmRestart, modeReport, handReport, Link.hand_disabled (l := s.link.warm) (k := .mode) _ h]
  rfl

/-- Blanking after a cold start out of reset follows TXON (R33). -/
theorem Blanking.followed_eq (b : Blanking) : b.followed = if b = .active none then .active none else .inactive := by
  cases b with
  | inactive => rfl
  | active e => cases e <;> rfl

/-- A cold start out of reset: its report goes out first (R2, R178, R179, R195). -/
theorem coldRestart_reported (c : ModeCause) (s : State) :
    pump (coldRestart c s) = { State.cold with
      choices := s.choices, pending := s.pending
      sense := { Sense.cold with blanking := if s.sense.blanking = .active none then .active none else .inactive }
      link := { s.link.coldRunning s.airClock with
        sending := some
          { frame := { kind := 0xC0, ticket := 0, payload := [0, s.control.mode.code, 0, c.code, 0, 0, 0, 0] }
            endsAt := 130 } } } := by
  have one : (s.link.coldRunning s.airClock).reports.length < 16 := Nat.zero_lt_succ _
  have on : (s.link.coldRunning s.airClock).enables.getLsbD ReportKind.mode.bit = true := by
    simp only [Link.coldRunning, Link.cold]; decide
  rw [← Blanking.followed_eq]
  simp only [coldRestart, modeReport, handReport, Link.hand_queued (k := .mode) _ on one]
  rfl

/-- Whatever its cause, a warm restart leaves the warm values. -/
theorem warmRestart_restarted (c : ModeCause) (s : State) : WarmRestarted s (pump (warmRestart c s)) := by
  have entries {t : State} (h : t.tracking = s.tracking.warm) :
      ∀ id < s.tracking.entries.length, (s.tracker id).warmed (t.tracker id) :=
    fun id bound => by rw [tracker_warm h bound]; exact Tracker.warm_warmed _
  cases h : s.link.enables.getLsbD 0
  · rw [warmRestart_silent c h]
    exact ⟨rfl, rfl, rfl, rfl, rfl, rfl, rfl, by simp [Tracking.warm], entries rfl, rfl, rfl, rfl, rfl, rfl, rfl, rfl,
      rfl, rfl, rfl, rfl, rfl⟩
  · rw [warmRestart_reported c h]
    exact ⟨rfl, rfl, rfl, rfl, rfl, rfl, rfl, by simp [Tracking.warm], entries rfl, rfl, rfl, rfl, rfl, rfl, rfl, rfl,
      rfl, rfl, rfl, rfl, rfl⟩

end Sys2Proof.Machine
end

