-- ==== Sys2Proof/Laws/Table.lean ====
section
/-! SUPPORT. What the operations over the whole tracker table and over the whole queue do, said once: every entry that a
test picks is changed in its place and reported, in order of id (R80, R82, R156), and every entry of the queue is reported
in order (R145). -/

namespace Sys2Proof.Machine

/-- The ids of the table (R58). -/
theorem trackerIds_eq : trackerIds = List.range 12 := by decide

/-- Reading an entry of a table. -/
theorem State.tracker_eq {s : State} {id : Nat} (h : id < s.tracking.entries.length) :
    s.tracker id = s.tracking.entries[id] := by
  simp [State.tracker, List.getD_eq_getElem?_getD, h]

/-- The entry after a write. -/
theorem State.setTracker_tracker {s : State} {id : Nat} (h : id < s.tracking.entries.length) (x : Tracker) (j : Nat) :
    (s.setTracker id x).tracker j = if j = id then x else s.tracker j := by
  simp only [State.setTracker, State.withTracking, State.tracker, List.getD_eq_getElem?_getD, List.getElem?_set]
  by_cases e : id = j
  · subst e; simp [h]
  · rw [if_neg e, if_neg (Ne.symm e)]

/-! ### Every entry that a test picks, changed and reported -/

/-- The state after the entries of the ids below `n` that pass `p` were changed by `g`, each with a TRACKER report of the
fields `rep`. -/
def State.changed (s : State) (p : Tracker → Bool) (g : Tracker → Tracker) (rep : Nat → Tracker → List Byte) (n : Nat) :
    State :=
  { s with
    tracking := { s.tracking with
      entries := (s.tracking.entries.take n).map (fun x => if p x then g x else x) ++ s.tracking.entries.drop n }
    link := (List.range n).foldl
      (fun l id => if p (s.tracker id) then l.hand .tracker (rep id (s.tracker id)) else l) s.link }

/-- The entry that comes next is still as it was. -/
theorem State.changed_tracker (s : State) (p : Tracker → Bool) (g : Tracker → Tracker)
    (rep : Nat → Tracker → List Byte) {n : Nat} (h : n < s.tracking.entries.length) :
    (s.changed p g rep n).tracker n = s.tracker n := by
  simp only [State.tracker, State.changed, List.getD_eq_getElem?_getD]
  rw [List.getElem?_append_right (by simp)]
  simp [Nat.min_eq_left (Nat.le_of_lt h)]

/-- One entry more. -/
theorem State.changed_succ (s : State) (p : Tracker → Bool) (g : Tracker → Tracker)
    (rep : Nat → Tracker → List Byte) {n : Nat} (h : n < s.tracking.entries.length) :
    s.changed p g rep (n + 1) =
      if p (s.tracker n) then
        handReport .tracker (rep n (s.tracker n)) ((s.changed p g rep n).setTracker n (g (s.tracker n)))
      else s.changed p g rep n := by
  have drop : s.tracking.entries.drop n = s.tracker n :: s.tracking.entries.drop (n + 1) := by
    rw [State.tracker_eq h, List.drop_eq_getElem_cons h]
  have take : s.tracking.entries.take (n + 1) = s.tracking.entries.take n ++ [s.tracker n] := by
    rw [State.tracker_eq h, List.take_add_one]; simp [h]
  have len : (s.tracking.entries.take n).length = n := by simp [Nat.min_eq_left (Nat.le_of_lt h)]
  by_cases hp : p (s.tracker n) = true
  · rw [if_pos hp]
    simp only [State.changed, handReport, State.withLink, State.setTracker, State.withTracking, List.range_succ,
      List.foldl_append, List.foldl_cons, List.foldl_nil, take, List.map_append, List.map_cons, List.map_nil, hp, if_true,
      drop]
    rw [List.set_append_right _ _ (by simp), List.length_map, len, Nat.sub_self, List.set_cons_zero, List.append_assoc,
      List.singleton_append]
  · rw [if_neg hp]
    simp only [State.changed, List.range_succ, List.foldl_append, List.foldl_cons, List.foldl_nil, take,
      List.map_append, List.map_cons, List.map_nil, if_neg hp, drop, List.append_assoc, List.singleton_append]

/-- A fold over the ids that changes and reports each entry that passes a test. -/
theorem foldl_changed (s : State) (p : Tracker → Bool) (g : Tracker → Tracker) (rep : Nat → Tracker → List Byte)
    (f : State → Nat → State) (n : Nat) (h : n ≤ s.tracking.entries.length)
    (step : ∀ i < n, f (s.changed p g rep i) i = s.changed p g rep (i + 1)) :
    (List.range n).foldl f s = s.changed p g rep n := by
  induction n with
  | zero => simp [State.changed]
  | succ n ih =>
    rw [List.range_succ, List.foldl_append, ih (Nat.le_of_succ_le h) (fun i hi => step i (Nat.lt_succ_of_lt hi)),
      List.foldl_cons, List.foldl_nil, step n (Nat.lt_succ_self n)]

/-- All twelve entries. -/
theorem State.changed_all {s : State} (h : s.tracking.entries.length = 12) (p : Tracker → Bool) (g : Tracker → Tracker)
    (rep : Nat → Tracker → List Byte) :
    s.changed p g rep 12 = { s with
      tracking := { s.tracking with entries := s.tracking.entries.map (fun x => if p x then g x else x) }
      link := (List.range 12).foldl
        (fun l id => if p (s.tracker id) then l.hand .tracker (rep id (s.tracker id)) else l) s.link } := by
  simp only [State.changed, List.take_of_length_le (Nat.le_of_eq h), List.drop_eq_nil_of_le (Nat.le_of_eq h),
    List.append_nil]

/-- SET_TRACKING's lowered miss limit (R82). -/
theorem applyMissLimit_eq {s : State} (h : s.tracking.entries.length = 12) :
    applyMissLimit s = s.changed
      (fun x => decide (x.state = .locked ∧ s.tracking.settings.missLimit ≤ x.misses)) Tracker.asDormant
      (fun id x => [byteOf id, x.kind.code, 3, 4, 6]) 12 := by
  unfold applyMissLimit
  rw [trackerIds_eq]
  refine foldl_changed _ _ _ _ _ 12 (Nat.le_of_eq h.symm) fun i hi => ?_
  have hi' : i < s.tracking.entries.length := h ▸ hi
  rw [State.changed_succ _ _ _ _ hi', State.changed_tracker _ _ _ _ hi']
  simp only [decide_eq_true_eq]
  rfl

/-- The candidates freed at a change of channel (R80). -/
theorem freeCandidates_eq {s : State} (h : s.tracking.entries.length = 12) :
    freeCandidates s = s.changed (fun x => decide (x.state = .candidate)) (fun _ => Tracker.free)
      (fun id x => [byteOf id, x.kind.code, 1, 0, 12]) 12 := by
  unfold freeCandidates
  rw [trackerIds_eq]
  refine foldl_changed _ _ _ _ _ 12 (Nat.le_of_eq h.symm) fun i hi => ?_
  have hi' : i < s.tracking.entries.length := h ▸ hi
  rw [State.changed_succ _ _ _ _ hi', freeTracker, State.changed_tracker _ _ _ _ hi']
  simp only [decide_eq_true_eq]
  split
  · rename_i e; simp only [e]; rfl
  · rfl

/-- An entry that RELEARN demotes (R156). -/
def Tracker.relearns (x : Tracker) : Bool := decide (x.kind = .oven ∧ x.state = .locked)

/-- RELEARN over the ids below `n`, with the notice it owes (R156). -/
theorem foldl_relearnEntry (s : State) (n : Nat) (h : n ≤ s.tracking.entries.length) :
    (List.range n).foldl relearnEntry (s, false) =
      (s.changed Tracker.relearns (fun x => x.relearned s.airClock) (fun id _ => [byteOf id, 0, 3, 2, 9]) n,
        (List.range n).any (fun id => (s.tracker id).relearns)) := by
  induction n with
  | zero => simp [State.changed]
  | succ n ih =>
    have hn : n < s.tracking.entries.length := h
    rw [List.range_succ, List.foldl_append, ih (Nat.le_of_lt hn), List.foldl_cons, List.foldl_nil, List.any_append,
      State.changed_succ _ _ _ _ hn]
    simp only [relearnEntry, State.changed_tracker _ _ _ _ hn, List.any_cons, List.any_nil, Bool.or_false,
      Tracker.relearns, decide_eq_true_eq]
    split
    · rename_i hp
      rw [decide_eq_true hp, Bool.or_true]; rfl
    · rename_i hp
      rw [decide_eq_false hp, Bool.or_false]

/-- RELEARN (R156). -/
theorem relearn_eq {s : State} (h : s.tracking.entries.length = 12) :
    relearn s = planChangeIf ((List.range 12).any (fun id => (s.tracker id).relearns))
      (s.changed Tracker.relearns (fun x => x.relearned s.airClock) (fun id _ => [byteOf id, 0, 3, 2, 9]) 12) := by
  unfold relearn
  rw [trackerIds_eq, foldl_relearnEntry s 12 (Nat.le_of_eq h.symm)]

/-! ### The queue emptied with its reports (R145) -/

/-- The DISPLACED reports of a list of entries, in its order. -/
theorem displacedReports_eq (q : List Reservation) (reason : DisplacedReason) (s : State) :
    q.foldl (fun s e => displacedReport e reason s) s = s.withLink (q.foldl (fun l e => l.hand .displaced
      ([e.lane.code, e.origin.code, s.entryTag e.origin] ++ le32 e.start ++ [reason.code])) s.link) := by
  induction q generalizing s with
  | nil => rfl
  | cons e q ih => simp only [List.foldl_cons]; rw [ih]; rfl

/-- Leaving ACTIVE or FALLBACK for OBSERVE or HOLD (R145). -/
theorem suspendBookings_eq (s : State) :
    suspendBookings s = { s with
      planner := { s.planner with
        queue := [], series := s.planner.series.map (fun x => { x with state := .suspended, retry := none }) }
      link := s.planner.queue.foldl (fun l e => l.hand .displaced
        ([e.lane.code, e.origin.code, s.entryTag e.origin] ++ le32 e.start ++ [1])) s.link } := by
  simp only [suspendBookings, displacedReports_eq]
  rfl

/-! ### Choices from the table (R71, R72) -/

/-- No id of the list passes the test. -/
theorem oldest_eq_none {test : Nat → Bool} {age : Nat → Nat} {ids : List Nat} :
    oldest test age ids = none ↔ ∀ j ∈ ids, test j = false := by
  induction ids with
  | nil => simp [oldest]
  | cons i ids ih =>
    simp only [oldest]
    split
    · rename_i hi
      split
      · simp_all
      · split <;> simp_all
    · simp_all

/-- The id of greatest age among those of a rising list that pass the test, the lower id on a tie. -/
theorem oldest_eq_some {test : Nat → Bool} {age : Nat → Nat} {ids : List Nat} (rising : ids.Pairwise (· < ·)) {id : Nat} :
    oldest test age ids = some id ↔
      id ∈ ids ∧ test id = true ∧ ∀ j ∈ ids, test j = true → age j < age id ∨ (age j = age id ∧ id ≤ j) := by
  induction ids generalizing id with
  | nil => simp [oldest]
  | cons i ids ih =>
    obtain ⟨below, rising⟩ := List.pairwise_cons.1 rising
    have ih := fun {k} => @ih rising k
    simp only [oldest, List.mem_cons, forall_eq_or_imp]
    split
    · rename_i hi
      cases ho : oldest test age ids with
      | none =>
        have none := oldest_eq_none.1 ho
        simp only [Option.some.injEq]
        constructor
        · rintro rfl
          exact ⟨Or.inl rfl, hi, fun _ => Or.inr ⟨rfl, Nat.le_refl _⟩, fun j hj ht => by simp [none j hj] at ht⟩
        · rintro ⟨rfl | hm, ht, _⟩
          · rfl
          · simp [none id hm] at ht
      | some k =>
        obtain ⟨km, kt, kk⟩ := ih.1 ho
        have := below k km
        simp only
        split
        all_goals
          simp only [Option.some.injEq]
          constructor
          · rintro rfl
            refine ⟨by simp_all, by assumption, fun _ => by omega, fun j hj ht => ?_⟩
            have := kk j hj ht; have := below j hj; omega
          · rintro ⟨rfl | hm, ht, hi', hk⟩
            · first | rfl | (have := hk k km kt; omega)
            · have := hi' hi; have := hk k km kt; have := kk id hm ht; have := below id hm; omega
    · rename_i hi
      rw [ih]
      constructor
      · rintro ⟨hm, ht, hk⟩; exact ⟨Or.inr hm, ht, fun h => absurd h hi, hk⟩
      · rintro ⟨rfl | hm, ht, _, hk⟩
        · exact absurd ht hi
        · exact ⟨hm, ht, hk⟩

/-- The first rise to decide is the first from 1 on whose test instant lies after now (R72). -/
theorem Tracker.firstRiseAfter_le {x : Tracker} (h : 0 < x.period) (now : Instant) (i : Nat) :
    x.firstRiseAfter now ≤ i ↔
      1 ≤ i ∧ 0 < Sixteenth.diff x.anchor (Instant.sixteenths now) + i * x.period + 16 * x.halfWidth := by
  unfold Tracker.firstRiseAfter floorDiv
  have hp : (0 : Int) < x.period := by exact_mod_cast h
  rw [max_le_iff, Int.toNat_le, Int.add_one_le_iff, Int.ediv_lt_iff_lt_mul hp]
  refine and_congr_right fun _ => ?_
  constructor <;> intro _ <;> linarith

end Sys2Proof.Machine
end

