-- ==== Sys2Proof/Laws/Values.lean ====
section
/-! SUPPORT. Clamping as a maximum of a minimum, small time codes, and rounded quotients of natural numbers. -/

namespace Sys2Proof.Machine

theorem clampNat_eq (lo hi v : Nat) (h : lo ≤ hi) : clampNat lo hi v = max lo (min hi v) := by
  unfold clampNat; split <;> (try split) <;> omega

theorem clamp_eq (lo hi v : Int) (h : lo ≤ hi) : clamp lo hi v = max lo (min hi v) := by
  unfold clamp; split <;> (try split) <;> omega

/-- A value below 4,096 µs is exact at scale 0 (R9). -/
theorem timeCodeOf_small {v : Nat} (h : v ≤ 4095) : timeCodeOf v = BitVec.ofNat 16 v := by
  have fits : mantissaAt v 0 = v := by simp [mantissaAt]
  simp only [timeCodeOf, List.find?_cons, fits, h, decide_true, Nat.mul_zero, Nat.zero_add]

/-- The least integer at or above a quotient of natural numbers. -/
theorem ceilDiv_nat (a p : Nat) : ceilDiv (a : Int) p = ((a + p - 1) / p : Nat) := by
  unfold ceilDiv
  rcases Nat.eq_zero_or_pos p with rfl | pos
  · simp
  · have upper : p * ((a + p - 1) / p) ≤ a + p - 1 := Nat.mul_div_le _ _
    have lower : a + p - 1 < p * ((a + p - 1) / p + 1) := by
      rw [Nat.mul_comm]; exact Nat.lt_mul_of_div_lt (Nat.lt_succ_self _) pos
    generalize (a + p - 1) / p = q at upper lower
    have exact : (-(a : Int)) / (p : Int) = -(q : Int) := by
      rw [Int.ediv_eq_iff_of_pos (by omega)]
      rw [Nat.mul_add, Nat.mul_one] at lower
      have up : ((p * q : Nat) : Int) ≤ a + p - 1 := by omega
      have low : (a : Int) + p - 1 < (p * q : Nat) + p := by omega
      push_cast at up low
      constructor <;> nlinarith
    rw [exact, Int.neg_neg]

end Sys2Proof.Machine
end

