-- ==== Sys2Proof/Laws/Windows.lean ====
section
/-! SUPPORT. What the base code and the presented code read, and how the two differ only through it. -/

namespace Sys2Proof.Machine

/-- Everything that the predicates read is the same in two states (R108 to R110). -/
structure SameAir (s t : State) : Prop where
  airClock : t.airClock = s.airClock
  operating : t.dwells.operating = s.dwells.operating
  records : t.dwells.records = s.dwells.records
  tracking : t.tracking = s.tracking
  mode : t.control.mode = s.control.mode
  template : t.planner.template = s.planner.template
  loadThreshold : t.planner.loadThreshold = s.planner.loadThreshold

theorem SameAir.holdsAt {s t : State} (h : SameAir s t) (p : Predicate) (x : Int) : p.holdsAt t x = p.holdsAt s x := by
  have load : loadAtThreshold t = loadAtThreshold s := by
    unfold loadAtThreshold
    rw [h.operating]
    cases s.dwells.operating with
    | none => rfl
    | some c =>
      have record : t.channelRecord c = s.channelRecord c := by simp only [State.channelRecord, h.records]
      show decide (t.planner.loadThreshold ≤ (t.channelRecord c).load) = _
      rw [record, h.loadThreshold]
  cases p with
  | loadHigh => exact load
  | always => rfl
  | ovenLocked =>
    simp only [Predicate.holdsAt, ovenLockedTrains, lockedOvenTrains, h.airClock, h.operating, h.tracking, h.mode,
      h.template]
  | ovenAcq => simp only [Predicate.holdsAt, acquiringOvenTrains, h.airClock, h.operating, h.tracking]
  | beacon => simp only [Predicate.holdsAt, lockedBeaconTrains, h.airClock, h.operating, h.tracking]
  | anyLock => simp only [Predicate.holdsAt, anyOvenLocked, h.operating, h.tracking]

theorem SameAir.baseAction {s t : State} (h : SameAir s t) (x : Int) (rs : List Rule) :
    baseAction t x rs = baseAction s x rs := by
  induction rs with
  | nil => rfl
  | cons r rs ih =>
    have test : r.test t x = r.test s x := by rw [Rule.test, Rule.test, h.holdsAt]
    rw [Machine.baseAction, Machine.baseAction, test, ih]

/-- The base code is the same in two states with the same rules that agree on what the predicates read (R111). -/
theorem SameAir.baseCode {s t : State} (h : SameAir s t) (rules : t.planner.rules = s.planner.rules) (x : Int) :
    baseCode t x = baseCode s x := by
  rw [Machine.baseCode, Machine.baseCode, rules, h.baseAction]

/-- The presented code is the same when the queue is too (R116). -/
theorem SameAir.formedCode {s t : State} (h : SameAir s t) (rules : t.planner.rules = s.planner.rules)
    (queue : t.planner.queue = s.planner.queue) : formedCode t = formedCode s := by
  simp only [Machine.formedCode, h.mode, h.baseCode rules, queue, h.airClock]

theorem sameAir_lines (s : State) (c : WindowCode) : SameAir s (s.withPlanner { s.planner with lines := c }) :=
  ⟨rfl, rfl, rfl, rfl, rfl, rfl, rfl⟩

/-- Re-formed lines show the code that the mode gives (R117). -/
theorem reform_formed (s : State) : (reform s).planner.lines = formedCode (reform s) :=
  ((sameAir_lines s (formedCode s)).formedCode rfl rfl).symm

theorem reform_standby {s : State} (h : s.control.mode = .standby) : (reform s).planner.lines = .openAir := by
  rw [reform_formed, formedCode, show (reform s).control.mode = .standby from h]

theorem reform_observe {s : State} (h : s.control.mode = .observe) : (reform s).planner.lines = .openAir := by
  rw [reform_formed, formedCode, show (reform s).control.mode = .observe from h]

theorem reform_hold {s : State} (h : s.control.mode = .hold) : (reform s).planner.lines = .shut := by
  rw [reform_formed, formedCode, show (reform s).control.mode = .hold from h]

end Sys2Proof.Machine
end

