-- ==== Sys2Proof/Tests/Slice0.lean ====
section
/-! SUPPORT. Tests: an ill-formed command for each check, the spec's worked cases, and for every statement that has
hypotheses a state and operands that meet them, clause by clause. -/

namespace Sys2Proof.Tests

open Sys2Proof Sys2Proof.Machine

/- Each `decide +kernel` below waits for the kernel, and tests checked beside one another would each hold a thread and its
stack while they wait: they are checked one after another. -/
set_option Elab.async false

/-! ### Ill-formed commands -/

theorem test_wellFormed_setScan_payload_above_240 :
    (Instr.setScan 0 233 (List.replicate 233 1) 0 0 0 0).wellFormed = false := by
  decide +kernel
theorem test_wellFormed_setRules_payload_above_240 :
    (Instr.setRules 0 80 (List.replicate 80 { predicate := 0, invert := 0, action := 0 }) 0).wellFormed = false := by
  decide +kernel
theorem test_wellFormed_riseTest_id_12 : (Instr.riseTest 12).wellFormed = false := by decide
theorem test_wellFormed_candidateExpiry_id_12 : (Instr.candidateExpiry 12).wellFormed = false := by decide
theorem test_wellFormed_trackerAgeLimit_id_12 : (Instr.trackerAgeLimit 12).wellFormed = false := by decide
theorem test_wellFormed_dormantAgeLimit_id_12 : (Instr.dormantAgeLimit 12).wellFormed = false := by decide
theorem test_wellFormed_guardStep_id_12 : (Instr.guardStep 12).wellFormed = false := by decide
theorem test_wellFormed_riseTest_id_11 : (Instr.riseTest 11).wellFormed = true := by decide

/-! ### States for the tests -/

/-- The state a command leads to. -/
def after (o : Host.Outcome State Fault Refusal) : State :=
  match o with
  | .next t => t
  | .fault _ => State.reset
  | .refused _ => State.reset

/-- A state out of reset in a mode at an instant, with operating channel 6 and nothing on TXD. -/
def sample (m : Mode) (now : Instant) : State :=
  { State.reset with
    airClock := now
    control := { mode := m, mark := none, hold := none, modeReplies := 0 }
    dwells := { State.reset.dwells with operating := some 6 }
    link := { State.reset.link with sending := none } }

theorem sample_ready (m : Mode) (now : Instant) : Ready (sample m now) := ⟨rfl, rfl, rfl, Nat.zero_le _⟩

/-- The part held in reset by power-up. -/
def held : State := after (exec .powerUp State.reset)

/-- An OVEN entry in a state, with span 6, period 20,000 µs, anchor at 0 and last hit there. -/
def oven (st : TrackerState) : Tracker :=
  { Tracker.free with
    kind := .oven, state := st, span := [6], period := 320000, onDuration := 9500, run := 6, hits := 6
    lastHit := some 0, nextRise := 1 }

/-- A declared BEACON entry in a state, on channel 6, of interval 102,400 µs, anchored or not. -/
def beacon (st : TrackerState) (anchored : Bool) : Tracker :=
  { Tracker.free with
    kind := .beacon, state := st, channel := 6, anchored := anchored, period := 1638400, onDuration := 400
    lastHit := if anchored then some 0 else none, nextRise := if anchored then 1 else 0 }

/-- A state with one tracker, of id 0. -/
def withTracker (t : Tracker) (s : State) : State := s.setTracker 0 t

/-- The template of a 20,000 µs oven. -/
def template : Template := { period := 320000, anchor := 0, onDuration := 9500, ovenGuard := 300, margin := 500 }

def withTemplateHeld (s : State) : State := s.withPlanner { s.planner with template := some template }

/-- A one-shot of lane A with tag 1, of length 1,000 µs. -/
def entry (start : Instant) (st : EntryState) : Reservation :=
  { lane := .a, origin := .oneShot 1, start := start, length := 1000, deadline := start + 5000, state := st }

/-- A series of lane B with tag 2, of period 20,000 µs and length 1,000 µs. -/
def series : Series :=
  { id := 0, lane := .b, tag := 2, period := 20000, length := 1000, slide := 500, anchor := 10000, index := 1
    consecutiveSkips := 0, totalSkips := 0, state := .running, retry := none }

def queued (q : List Reservation) (xs : List Series) (s : State) : State :=
  s.withPlanner { s.planner with queue := q, series := xs }

/-- A frame standing in the transmitter or a queue. -/
def someFrame : Frame := { kind := 0x81, ticket := 0, payload := [0] }

def withReplies (n : Nat) (s : State) : State := s.withLink { s.link with replies := List.replicate n someFrame }

def withReceiver (r : Receiver) (s : State) : State := s.withLink { s.link with receiver := r }

/-- A sense receiver that observes channel 6 since 1,000, in a detector state. -/
def observing (d : Detector) (s : State) : State :=
  s.withSense { s.sense with
    tuned := some 6, tuning := .settled, observedSince := some 1000, fresh := false, detector := d
    restartPoint := 1000, readingTaken := false }

/-- A burst that began at 2,000 with its last reading at or above the threshold at 2,996. -/
def burst : Burst := { start := 2000, last := 2996, structured := false, cutAtStart := false, code := .openAir }

/-- An unstructured record of 1,000 µs on channel 6 and its hold. -/
def record (start : Instant) : BurstRecord :=
  { channel := 6, start := start, finish := start + 1000, duration := 1000, structured := false, truncated := false
    cutAtStart := false, long := false, code := .openAir }

def heldRecord (start : Instant) : HeldRecord := { record := record start, gapEnd := start + 1500 }

/-- A current dwell of a kind that started at 0 and ends at 200,000. -/
def dwell (k : DwellKind) : Dwell :=
  { kind := k, channel := 6, start := 0, plannedEnd := 200000, busy := 0, unstructuredBusy := 0, observed := 10000
    structuredCount := 0, unstructuredCount := 0 }

/-! ### Forms of fields (chapters 1 and 10) -/

/-- Worked frame of 10.4.1: SET_CHANNEL 6 with ticket 0x10, and its reply. -/
theorem test_frame_setChannel :
    ({ kind := 0x12, ticket := 0x10, payload := [6] } : Frame).bytes = [0xA5, 0x01, 0x12, 0x10, 0x06, 0x27] := by
  decide +kernel
theorem test_frame_setChannel_reply :
    ({ kind := 0x92, ticket := 0x10, payload := [0, 0] } : Frame).bytes = [0xA5, 0x02, 0x92, 0x10, 0x00, 0x00, 0x1C] := by
  decide +kernel
/-- Table 1-4. -/
theorem test_timeCode_decode :
    [0x07D0, 0x11F4, 0x24E3, 0x3FFF, 0x5000, 0x7FFF].map timeCodeValue = [2000, 2000, 20016, 262080, 0, 67092480] := by
  decide
/-- Table 1-5. -/
theorem test_timeCode_encode :
    [0, 500, 2000, 4095, 4096, 16381, 20001, 200000, 1000000].map timeCodeOf
      = [0x0000, 0x01F4, 0x07D0, 0x0FFF, 0x1400, 0x2400, 0x24E3, 0x3C35, 0x4F43] := by decide
/-- R87: round(0.5), round(-0.5), round(2.5) and round(-2.5). -/
theorem test_roundAway : [1, -1, 5, -5].map (fun v => roundAway v 2) = [1, -1, 3, -3] := by decide
/-- No row of the table gives bits. -/
theorem test_decodeTableWord : decodeTableWord 8 0 = none := rfl

/-! ### Sense receiver: Table 2-3 -/

/-- 10,020: the fifth reading at or above the threshold qualifies the burst of 10,000. -/
theorem test_energyReading_qualifies :
    (after (exec (.energyReading (-60) false)
      (observing (.quiet { count := 4, first := 10000, code := .openAir }) (sample .active 10020)))).sense.detector
      = .inBurst 0 { start := 10000, last := 10016, structured := false, cutAtStart := false, code := .openAir } := by
  decide +kernel

/-- Log 41: a burst cut at start may begin at 1,001, and its long cut falls at 31,001, inside the reading of 31,000. That
reading is dropped, and the reading of 31,004 is the first of the next run. -/
theorem test_energyReading_around_long_cut :
    let cut (now : Instant) := (observing (.inBurst 0 { burst with start := 1001 }) (sample .active now))
    let next (now : Instant) := { after (exec .longBurstCut (cut 31001)) with airClock := now }
    (next 31001).sense.restartPoint = 31001 ∧ readingDue (next 31004) = false ∧ readingDue (next 31008) = true := by
  decide +kernel

/-- 14,248: the 12th reading below the threshold ends the burst at 14,200; it is held to 14,700. -/
theorem test_energyReading_ends_burst :
    (after (exec (.energyReading (-90) false)
      (observing (.inBurst 11 { start := 10000, last := 14196, structured := false, cutAtStart := false, code := .openAir })
        (sample .active 14248)))).sense.held
      = some
        { record :=
            { channel := 6, start := 10000, finish := 14200, duration := 4200, structured := false, truncated := false
              cutAtStart := false, long := false, code := .openAir }
          gapEnd := 14700 } := by
  decide +kernel

/-- 14,900: TXON goes high; the partner is cut and merged, to 4,900 µs, truncated, held to 15,400. -/
theorem test_txonRise_merges_partner :
    ((after (exec .txonRise
      ((observing
        (.inBurst 0 { start := 14400, last := 14892, structured := false, cutAtStart := false, code := .openAir })
        (sample .active 14900)).withHeld (some
          { record :=
              { channel := 6, start := 10000, finish := 14200, duration := 4200, structured := false, truncated := false
                cutAtStart := false, long := false, code := .openAir }
            gapEnd := 14700 })))).sense.held.map
      (fun h => (h.record.start, h.record.finish, h.record.duration, h.record.truncated, h.gapEnd)))
      = some (10000, 14900, 4900, true, 15400) := by
  decide +kernel

/-- 15,300: TXON goes low and the tail runs to 15,330. -/
theorem test_txonFall_begins_tail :
    (after (exec .txonFall
      ((sample .active 15300).withSense { State.reset.sense with blanking := .active none }))).sense.blanking
      = .active (some 15330) := by
  decide +kernel

/-! ### Dwells: 3.4.1 and 3.5.1 -/

theorem test_channelRecord_smoothing :
    (({ visited := true, load := 312, unstructuredLoad := 280, lastVisitEnd := 0, visits := 57 } : ChannelRecord).updated
      { dwell .offChannel with busy := 14350, unstructuredBusy := 12600, observed := 35000 } 40000)
      = { visited := true, load := 324, unstructuredLoad := 290, lastVisitEnd := 40000, visits := 58 } := by
  decide +kernel
theorem test_smoothLoad_halves : [smoothLoad 3 7, smoothLoad 4 0] = [4, 3] := by decide +kernel

/-- Two LOCKED ovens of span 6 and of span 6 and 7, and the loads of the worked case. -/
def rankedState : State :=
  let s := ((sample .active 0).setTracker 0 (oven .locked)).setTracker 1 { oven .locked with span := [6, 7] }
  s.withDwells { s.dwells with
    records := [180, 0, 240, 0, 0, 420, 0, 0, 0, 150, 210, 0, 0].map (fun n =>
      { visited := decide (n ≠ 0), load := n, unstructuredLoad := 0, lastVisitEnd := 0, visits := 1 }) }

theorem test_ranking_scores : [1, 3, 6, 10, 11, 13].map (score rankedState) = [180, 1250, 1430, 655, 210, 2000] := by
  decide +kernel

/-! ### Tracking: chapters 4 and 5 -/

/-- 5.2.1: a rise across the wrap. -/
def wrapped : Tracker := { oven .locked with anchor := 68719400000 }

theorem test_residual_across_wrap :
    (wrapped.cycles 15000, wrapped.nearestRise 15000, wrapped.residual 15000) = (1, 243264, -3264) := by
  decide +kernel

/-- 5.4.1: a LOCKED hit with n = 4 and a slip. -/
theorem test_lockedHit :
    (let s := withTracker { oven .locked with period := 320016, anchor := 1600000 } (sample .active 190010)
     let t := (associate 0 { record 180010 with finish := 189550, duration := 9540 } s).1.tracker 0
     (t.anchor, t.period, t.onDuration, t.slips, t.hits)) = (2880088, 320019, 9505, 1, 7) := by
  decide +kernel

/-- 5.4.2: the period clamp. -/
theorem test_hitPeriod_clamped :
    hitPeriod { oven .locked with period := 335990 } { record 0 with start := 21187, finish := 30000 } true = 336000 := by
  decide +kernel

/-- 5.3.1: a body absorbed after its fragment extends the on-duration to 8,122. -/
theorem test_absorb_extends_duration :
    (absorb { oven .acquiring with anchor := 4800000, onDuration := 7925, lastHit := some 300000 }
      { record 300700 with finish := 309500, duration := 8800 }).onDuration = 8122 := by
  decide +kernel

/-- 5.5.1, hit 3: a slip overflow. -/
theorem test_slip_overflow :
    (let s := withTracker { oven .locked with slips := 15 } (sample .active 30000)
     let t := (associate 0 { record 20005 with duration := 9500 } s).1
     ((t.tracker 0).state, (t.tracker 0).run, (t.tracker 0).slips, (t.tracker 0).slipOverflow, t.link.flags.slipOvf))
      = (.acquiring, 0, 0, true, true) := by
  decide +kernel

/-- A CANDIDATE entry of span 6 and a rise. -/
def candidate (rise : Instant) : Tracker := { Tracker.free with state := .candidate, rise := rise, span := [6] }

/-- Table 4-6, first row: a candidate is created. -/
theorem test_candidate_created :
    (let t := (trackRecord { record 100000 with finish := 109400, duration := 9400 } (sample .active 110000)).1.tracker 0
     (t.state, t.rise, t.span)) = (.candidate, 100000, [6]) := by
  decide +kernel

/-- Table 4-6, second row: the candidate is promoted. -/
theorem test_candidate_promoted :
    (let s := withTracker (candidate 100000) (sample .active 130000)
     let t := (trackRecord { record 120004 with finish := 129524, duration := 9520 } s).1.tracker 0
     (t.state, t.period, t.anchor, t.onDuration, t.run, t.hits)) = (.acquiring, 320064, 1920064, 9520, 1, 1) := by
  decide +kernel

/-- R70: a record of 170,000 that the span limit releases at 200,000, where the candidate of 100,000 expires, makes a new
candidate and does not promote the old one, whichever of the two is taken first; at 199,999 it would. -/
theorem test_candidate_expiring_not_promoted :
    (let s (now : Instant) := withTracker (candidate 100000) (sample .active now)
     let r := { record 170000 with finish := 183000, duration := 13000 }
     let table (t : State) := [0, 1].map (fun id => ((t.tracker id).state, (t.tracker id).rise))
     (table (candidateTest r (s 200000)).1, table (candidateTest r (after (exec (.candidateExpiry 0) (s 200000)))).1,
      ((candidateTest r (s 199999)).1.tracker 0).state))
      = ([(.candidate, 100000), (.candidate, 170000)], [(.candidate, 170000), (.free, 0)], .acquiring) := by
  decide +kernel

/-- 5.6.2: window 5 of a LOCKED oven at guards 300 and 320. -/
theorem test_window_edges :
    (let w : Train := { anchor := 2880088, period := 320019, onTime := 9505, ovenGuard := 300 }
     let v : Train := { w with ovenGuard := 320 }
     [w.startEdge 190010 5, w.endEdge 190010 5, v.startEdge 280010 5, v.endEdge 280010 5])
      = [279711 - 190010, 289817 - 190010, 279691 - 280010, 289837 - 280010] := by
  decide +kernel

/-! ### Window planner: 6.7.1 and 7.11 -/

/-- The plan of 7.11.1 at an instant. -/
def planned (now : Instant) : State :=
  ((sample .active now).setTracker 0 { oven .locked with anchor := 18880000, lastHit := some 1180000 }).setTracker 1
    { oven .locked with anchor := 18986672, lastHit := some 1186667 }

theorem test_baseCode_under_default_rules :
    [1199699, 1199700, 1216466, 1216467, 1219699, 1219700].map (fun x => baseCode (planned 1199000) (x - 1199000))
      = [.openAir, .shut, .shut, .openAir, .openAir, .shut] := by
  decide +kernel

/-- 7.11.2, tags 7 and 8. -/
theorem test_book_grants :
    (after (exec (.book 1 0 8 1500 0 0x29C4) { after (exec (.book 1 0 7 1500 0 0x29C4) (planned 1203000)) with
        airClock := 1203010 })).planner.queue.map (fun e => (e.start, e.deadline, e.state))
      = [(1216467, 1243000, .pending), (1217967, 1243010, .pending)] := by
  decide +kernel

/-- 7.11.2, tag 9: TOO_LONG with a longest run of 3,233. -/
theorem test_book_too_long :
    (requestBook 1 9 (timeCodeOf 4000) 0 (timeCodeOf 40000) (planned 1203020)).2 = 0x17#8 :: le32n 3233 := by
  decide +kernel

/-- 7.11.4: the state in which occurrence 0 opens, tag 9 holding the slot of occurrence 1. -/
def slotTaken : State :=
  queued
    [{ lane := .b, origin := .series 0, start := 1216467, length := 2500, deadline := 1219967, state := .committed },
     { lane := .a, origin := .oneShot 9, start := 1236467, length := 1500, deadline := 1244000, state := .pending }]
    [{ series with tag := 1, length := 2500, slide := 1000, anchor := 1216467, index := 0 }] (planned 1216467)

/-- Occurrence 1 is skipped and occurrence 2 placed. -/
theorem test_windowStart_places_occurrence :
    (after (exec .windowStart slotTaken)).planner.queue.map (fun e => (e.start, e.deadline, e.state))
      = [(1216467, 1219967, .opened), (1236467, 1244000, .pending), (1256467, 1259967, .pending)] := by
  decide +kernel
theorem test_windowStart_counts_skip :
    (after (exec .windowStart slotTaken)).planner.series.map (fun x => (x.anchor, x.index, x.consecutiveSkips))
      = [(1216467, 2, 1)] := by
  decide +kernel

/-- Table 1-7: the levels of WIN1 and WIN0. -/
theorem test_winLines :
    [WindowCode.shut, .openAir, .rsvA, .rsvB].map
        (fun c => ((sample .active 0).withPlanner { State.reset.planner with lines := c }).winLines)
      = [(false, false), (false, true), (true, false), (true, true)] := by
  decide +kernel

/-- 9.10 and R181: the first two bytes on TXD out of reset are the SYNC 0xA5 and the LEN 8 of the MODE report; TXD is high
at the end of its 13 bytes. -/
theorem test_txd :
    (List.range 20).map (fun k => ({ State.reset with airClock := BitVec.ofNat 32 k }).txd)
        = [false, true, false, true, false, false, true, false, true, true,
           false, false, false, false, true, false, false, false, false, true]
      ∧ ({ State.reset with airClock := 130 }).txd = true := by
  decide +kernel

/-- R4: the template's anchor 100 µs after now has no age and is not advanced. -/
theorem test_templateAnchor_after_now :
    (after (exec .templateAnchorAdvance
      ((sample .active 0).withTemplate (some { template with anchor := 1600 })))).planner.template.map Template.anchor
      = some 1600 := by
  decide +kernel

/-! ### Escalation and link: 8.6, 9.10 and 10.4.1 -/

/-- 8.6, records b, e, f, g, h and i. -/
theorem test_surprise_conditions :
    (let r := { record 0 with duration := 9310 }
     [r, { r with structured := true }, { r with duration := 150, code := .rsvA }, { r with cutAtStart := true },
      { r with channel := 11 }, { r with duration := 1200, code := .rsvB }].map
        (fun x => isSurprise x none (sample .active 0))) = [true, false, false, false, false, true] := by
  decide +kernel

/-- 9.10: the RESTART reply has 7 bytes, and the warm restart takes place at 5,000,070. -/
theorem test_restart_warm :
    (let s := after (exec (.restart 1 0) (sample .active 5000000))
     let t := after (exec .frameTransmitted { s with airClock := 5000070 })
     (s.link.sending.map Sending.endsAt, s.control.mark, t.control.mode, t.link.sending.map (fun x => x.frame.payload)))
      = (some 5000070, some .warm, .standby, some ([0x00, 0x02, 0x00, 0x01] ++ le32n 5000070)) := by
  decide +kernel

/-- R156: the pending rise at 20,000 of an oven that RELEARN demotes at 20,500 takes the half-width 2,000 and is tested
again at 22,000, where nothing is held: a miss. -/
theorem test_relearn_tests_again :
    (let p : PendingRise := { rise := 320000, halfWidth := 400, retest := false }
     let s := relearn (withTracker { oven .locked with pendingRise := some p }
       (observing (.quiet Run.empty) (sample .active 20500)))
     let t := after (exec (.riseTest 0) { s with airClock := 22000 })
     ((s.tracker 0).pendingRise, (t.tracker 0).pendingRise, (t.tracker 0).misses))
      = (some { rise := 320000, halfWidth := 2000, retest := true }, none, 1) := by
  decide +kernel

/-- R173: the reply of a SET_MODE FALLBACK gives HOLD when an escalation to HOLD follows at its instant. -/
theorem test_mode_reply_gives_the_last_mode :
    (let s := (withTemplateHeld (sample .active 0)).withEscalation
       { State.reset.escalation with score := 3, policy := .hold }
     let s := s.withLink { s.link with sending := some { frame := someFrame, endsAt := 130 } }
     let t := after (exec (.setMode 9 3) s)
     (t.link.replies.map Frame.payload, (escalationTest (record 0) none t).link.replies.map Frame.payload))
      = ([[0, 3]], [[0, 4]]) := by
  decide +kernel

/-- 10.4.1: a request that finds the inbox full with 3 replies waiting is answered FULL. -/
theorem test_request_full :
    (let s := withReplies 3 (sample .standby 450)
     let s := s.withLink { s.link with
       inbox := List.replicate 4 someFrame, sending := some { frame := someFrame, endsAt := 1550 } }
     (after (exec (.readChannels 9) s)).link.replies.getLast?)
      = some { kind := 0x94, ticket := 9, payload := [0x1D] } := by
  decide +kernel

/-! ### Witnesses: a state and operands that meet the hypotheses of each statement, clause by clause -/

/-- The state with one command waiting. -/
theorem witness_StepTakesFrontCommand : (State.reset.withPending [.scoreDrain]).pending = [.scoreDrain] := rfl

theorem witness_IdleStepQueuesDueEventOrCounts :
    (held.pending = [] ∧ held.control.hold.isSome = true) ∧
    (State.reset.pending = [] ∧ State.reset.control.hold = none ∧ eventsDue State.reset ≠ []) ∧
    ((sample .standby 1).pending = [] ∧ (sample .standby 1).control.hold = none ∧ eventsDue (sample .standby 1) = []) := by
  decide +kernel

theorem witness_NothingObservedInReset :
    held.control.hold.isSome = true ∧ Instr.scoreDrain ≠ .resetNLow ∧ Instr.scoreDrain ≠ .powerUp ∧
      ∀ rxd txon, Instr.scoreDrain ≠ .leaveReset rxd txon := by
  decide +kernel

theorem witness_LeavingReset :
    State.reset.control.hold = none ∧
    held.control.hold = some .powerUp ∧ held.link.sending = none ∧ held.link.replies = [] ∧ held.link.reports = [] ∧
      held.link.lostPending = false ∧ held.link.enables.getLsbD 0 = true := by
  decide +kernel

/-- RXD low since 0, at 50,000. -/
def lowLine (m : Mode) : State :=
  let s := sample m 50000
  s.withLink { s.link with rxdLow := some { fall := 0, restarted := false } }

/-- The break with a restart mark of COLD, TXON high. -/
def coldBreak : State :=
  ((lowLine .active).withControl { (lowLine .active).control with mark := some .cold }).withSense
    { State.reset.sense with blanking := .active none }

/-- R176 and R195: the break of a COLD mark starts the air clock at 0, and the low level goes on being measured. -/
theorem test_break_with_cold_mark :
    (let t := after (exec .rxdBreak coldBreak)
     (t.airClock, t.control.mark, t.link.rxdLow.map (fun w => (t.airClock - w.fall, w.restarted)),
       t.link.sending.map (fun x => x.frame.payload)))
      = (0, none, some (50000, true), some [0x00, 0x02, 0x00, 0x02, 0, 0, 0, 0]) := by
  decide +kernel

theorem witness_BreakRestartsWarm :
    Running (lowLine .active) ∧ (lowLine .active).link.rxdLow = some { fall := 0, restarted := false } ∧
    50000 ≤ ((lowLine .active).airClock - 0).toNat ∧ (lowLine .active).control.mark ≠ some .cold ∧
    (lowLine .active).link.enables.getLsbD 0 = true ∧
    (Running coldBreak ∧ coldBreak.link.rxdLow = some { fall := 0, restarted := false } ∧
      50000 ≤ (coldBreak.airClock - 0).toNat ∧ coldBreak.control.mark = some .cold) :=
  ⟨rfl, by decide +kernel, by decide +kernel, by decide +kernel, by decide +kernel, rfl, by decide +kernel⟩

/-- A RESTART reply whose last stop bit ends now, with a restart mark. -/
def restartReplied (k : RestartKind) : State :=
  let s := sample .active 70
  { s with
    control := { s.control with mark := some k }
    link := { s.link with sending := some { frame := { kind := 0x86, ticket := 1, payload := [0, k.code] }, endsAt := 70 } } }

theorem witness_RestartWhenItsReplyHasLeft (k : RestartKind) :
    Running (restartReplied k) ∧
    (restartReplied k).link.sending
      = some { frame := { kind := 0x86, ticket := 1, payload := [0, k.code] }, endsAt := 70 } ∧
    (restartReplied k).airClock = 70 ∧ Instant.atOrBefore 70 70 = true ∧ (restartReplied k).control.mark = some k ∧
    (restartReplied k).link.enables = 0xF9 ∧
    (let s := (restartReplied k).withLink { (restartReplied k).link with enables := 0xF8 }
     s.link.enables.getLsbD 0 = false ∧ s.control.mark = some k) :=
  ⟨rfl, rfl, rfl, by decide, rfl, rfl, by cases k <;> decide, rfl⟩

/-- `n` waiting replies and `m` waiting requests. -/
def waiting (n m : Nat) : State :=
  let s := withReplies n (sample .active 1000)
  s.withLink { s.link with inbox := List.replicate m someFrame }

theorem witness_RequestsWaitAndRepliesArePlaced :
    requestOf (.time 7) = some { kind := 0x03, ticket := 7, payload := [] } ∧
    (Running (waiting 3 3) ∧ (waiting 3 3).control.mark = none ∧ 3 ≤ (waiting 3 3).link.replies.length ∧
      (waiting 3 3).link.inbox.length < 4) ∧
    (4 ≤ (waiting 3 4).link.inbox.length ∧ (waiting 3 4).link.replies.length = 3) ∧
    (4 ≤ (waiting 4 4).link.inbox.length ∧ 4 ≤ (waiting 4 4).link.replies.length) ∧
    State.reset.link.sending.isSome = true ∧ (waiting 0 0).link.sending = none :=
  ⟨rfl, ⟨rfl, by decide +kernel⟩, by decide +kernel⟩

/-- A frame in the receiver with a CRC byte taken. -/
def framed (kind ticket : Byte) (payload : List Byte) (crc : Byte) (s : State) : State :=
  withReceiver (.check 0 (byteOf payload.length) kind ticket payload (some crc)) s

theorem witness_WrongLengthReachesNoBlock :
    ¬ lengthAllowed .ident [0] ∧ ¬ lengthAllowed .setScan [] ∧ ¬ lengthAllowed .setRules [1, 0, 0] ∧
    Ready (framed 0x01 7 [0] (crc8 [1, 0x01, 7, 0]) (sample .active 1000)) := by
  refine ⟨by simp [lengthAllowed], by simp [lengthAllowed], by simp [lengthAllowed], ⟨rfl, rfl, rfl, Nat.zero_le _⟩⟩

theorem witness_IdentTimeAndStatusReplies (m : Mode) : Ready (sample m 1000) := sample_ready m 1000

theorem witness_ReportsQueuedByTheirEnables :
    (Link.cold.enables.getLsbD ReportKind.tracker.bit = false) ∧
    (Link.cold.enables.getLsbD ReportKind.mode.bit = true ∧ Link.cold.reports.length < 16) ∧
    (let l : Link := { Link.cold with reports := List.replicate 16 someFrame }
     l.enables.getLsbD ReportKind.mode.bit = true ∧ 16 ≤ l.reports.length) := by
  decide +kernel

/-- SLIP_OVF set and one link error counted at the present instant, which found one error and ESCALATED set. -/
def flagged : State :=
  let s := sample .standby 0
  let found := { s.link with flags := { s.link.flags with escalated := true }, errors := 1 }.found
  s.withLink found.setSlipOvf.countError

/-- R192: what the request clears is reported without what was set or counted at its instant, whichever was taken first. -/
theorem test_clearFlags_same_instant :
    ((requestClearFlags 0x03 1 flagged).2, (requestClearFlags 0x02 0 flagged).2) = ([0x00, 0x02, 1], [0x00, 0x03, 2]) := by
  decide +kernel
/-- A tick later the instant finds both. -/
theorem test_clearFlags_next_instant : (requestClearFlags 0x03 1 (tick flagged)).2 = [0x00, 0x03, 2] := by
  decide +kernel

theorem witness_ClearFlagsClearsTheNamedFlags :
    Ready (sample .standby 0) ∧ Ready flagged ∧ ((1 : Byte) = 0 ∨ (1 : Byte) = 1) ∧ ((2 : Byte) ≠ 0 ∧ (2 : Byte) ≠ 1) :=
  ⟨sample_ready _ _, ⟨rfl, rfl, rfl, Nat.zero_le _⟩, by decide⟩

theorem witness_RestartMarkSetAndRequestsDropped :
    Ready (sample .active 0) ∧ (1 < (2 : Byte).toNat) ∧
    (restartReplied .warm).control.mark = some .warm ∧
    requestOf (.time 7) = some { kind := 0x03, ticket := 7, payload := [] } ∧
    Running (framed 0x03 7 [] 0 (restartReplied .warm)) ∧
    completeFrame (framed 0x03 7 [] 0 (restartReplied .warm)) = some ({ kind := 0x03, ticket := 7, payload := [] }, 0) :=
  ⟨sample_ready _ _, by decide, rfl, rfl, rfl, rfl⟩

theorem witness_StartBeginsTheDwellSequence :
    (Ready (sample .standby 0) ∧ (sample .standby 0).control.mode = .standby ∧
      (sample .standby 0).dwells.operating = some 6) ∧
    ((3 : Byte) ≠ 1 ∧ (3 : Byte) ≠ 2) ∧ (Ready (sample .hold 0) ∧ (sample .hold 0).control.mode ≠ .standby) ∧
    (Ready State.reset ∧ State.reset.control.mode = .standby ∧ State.reset.dwells.operating = none) :=
  ⟨⟨sample_ready _ _, rfl, rfl⟩, by decide, ⟨sample_ready _ _, by decide⟩, ⟨rfl, rfl, rfl, Nat.zero_le _⟩, rfl, rfl⟩

theorem witness_StopReturnsToStandby :
    (Ready (sample .standby 0) ∧ (sample .standby 0).control.mode = .standby) ∧
    (Ready (sample .active 0) ∧ (sample .active 0).control.mode ≠ .standby) :=
  ⟨⟨sample_ready _ _, rfl⟩, sample_ready _ _, by decide⟩

/-- The hypotheses common to the changes of mode. -/
def mayChange (s : State) (new : Mode) : Bool :=
  decide (s.control.mode ≠ .standby ∧ new ≠ .standby ∧ s.control.mode ≠ new ∧
    (new = .fallback → s.control.mode = .active ∧ s.planner.template.isSome = true))

/-- An entry and a series, the series suspended outside the modes that steer. -/
def booked (m : Mode) : State :=
  withTemplateHeld (if m.steers then queued [entry 12000 .pending] [series] (sample m 0)
    else queued [] [{ series with state := .suspended }] (sample m 0))

/-- Every change among the running modes. -/
theorem witness_ModeChangesAmongRunningModes :
    (∀ m, Ready (booked m)) ∧
    (∀ p ∈ [(Mode.active, Mode.hold), (.active, .observe), (.fallback, .hold), (.fallback, .observe), (.hold, .active),
        (.observe, .active), (.active, .fallback), (.fallback, .active), (.observe, .hold), (.hold, .observe)],
      mayChange (booked p.1) p.2 = true) ∧
    (booked .hold).control.mode ≠ .observe ∧ (booked .fallback).control.mode ≠ .observe :=
  ⟨fun m => by cases m <;> exact ⟨rfl, rfl, rfl, Nat.zero_le _⟩, by decide +kernel⟩

theorem witness_ModeRequestsRefusedInOrder :
    ((0 : Byte).toNat = 0 ∧ 4 < (5 : Byte).toNat) ∧
    (Ready (sample .standby 0) ∧ 1 ≤ (1 : Byte).toNat ∧ (4 : Byte).toNat ≤ 4) ∧
    (Ready (sample .hold 0) ∧ (sample .hold 0).control.mode ≠ .standby ∧
      (4 : Byte) = (sample .hold 0).control.mode.code ∧ (sample .hold 0).control.modeReplies = 0 ∧
      ((sample .hold 0).withControl { (sample .hold 0).control with modeReplies := 1 }).control.modeReplies ≠ 0) ∧
    (Ready (sample .active 0) ∧ (sample .active 0).planner.template = none ∧ (sample .active 0).control.mode ≠ .hold ∧
      (sample .active 0).control.mode ≠ .fallback) :=
  ⟨by decide, ⟨sample_ready _ _, by decide⟩, ⟨sample_ready _ _, by decide +kernel⟩, sample_ready _ _, by decide +kernel⟩

theorem witness_SetDetectSetsThePendingSettings :
    Ready (sample .active 0) ∧ (0x8001 : Half).getLsbD 15 = true ∧ 1 < (2 : Byte).toNat ∧
    ((0x00C9 : Half).getLsbD 15 = false ∧ (0x07D1 : Half).getLsbD 15 = false ∧ (1 : Byte).toNat ≤ 1) :=
  ⟨sample_ready _ _, by decide⟩

theorem witness_SetScanSetsThePendingPlan :
    Ready (sample .active 0) ∧ (2 : Byte).toNat ≠ [(1 : Byte)].length ∧
    ((14 : Byte).toNat = (List.replicate 14 (1 : Byte)).length ∧ 13 < (List.replicate 14 (1 : Byte)).length) ∧
    ((2 : Byte).toNat = [(1 : Byte), 13].length ∧ [(1 : Byte), 13].length ≤ 13 ∧
      (∀ c ∈ [(1 : Byte), 13], 1 ≤ c.toNat ∧ c.toNat ≤ 13) ∧ [(1 : Byte), 13].Nodup ∧ (1 : Byte).toNat ≤ 1 ∧
      (0x7FFF : Half).getLsbD 15 = false ∧ (0 : Half).getLsbD 15 = false) :=
  ⟨sample_ready _ _, by decide +kernel⟩

theorem witness_SetChannelChangesTheOperatingChannel :
    Ready (sample .active 0) ∧ ((0 : Byte).toNat < 1 ∧ 13 < (14 : Byte).toNat) ∧
    (sample .active 0).dwells.operating = some (6 : Byte).toNat ∧
    (1 ≤ (1 : Byte).toNat ∧ (13 : Byte).toNat ≤ 13 ∧ (sample .active 0).dwells.operating ≠ some (13 : Byte).toNat) ∧
    (sample .active 0).tracking.entries.length = 12 ∧
    (let s := (sample .active 0).withDwells { (sample .active 0).dwells with current := some (dwell .survey) }
     s.dwells.current = some (dwell .survey) ∧ s.dwells.operating ≠ some (13 : Byte).toNat) ∧
    (let s := (observing (.quiet Run.empty) (sample .active 2000)).withDwells
       { (sample .active 0).dwells with current := some (dwell .operating) }
     s.dwells.current = some (dwell .operating) ∧ 10000 ≤ (dwell .operating).observed ∧ s.sense.held = none ∧
       ∀ id < 12, (s.tracker id).pendingRise = none) :=
  ⟨sample_ready _ _, by decide +kernel⟩

theorem witness_SurveyWaitsForItsBoundary :
    (Ready (sample .standby 0) ∧ 13 < (14 : Byte).toNat ∧ (0x8000 : Half).getLsbD 15 = true) ∧
    (1 ≤ (1 : Byte).toNat ∧ (13 : Byte).toNat ≤ 13 ∧ (0x7FFF : Half).getLsbD 15 = false) ∧
    (Ready (sample .active 0) ∧ (sample .active 0).control.mode ≠ .standby ∧
      (sample .active 0).dwells.survey.phase = .none) ∧
    (let s := sample .active 0
     let s := s.withDwells { s.dwells with survey := { s.dwells.survey with phase := .waiting } }
     s.control.mode ≠ .standby ∧ s.dwells.survey.phase ≠ .none) :=
  ⟨⟨sample_ready _ _, by decide⟩, by decide, ⟨sample_ready _ _, by decide +kernel⟩, by decide +kernel⟩

theorem witness_ChannelRecordsAndRanking : Ready rankedState := ⟨rfl, rfl, rfl, Nat.zero_le _⟩

/-- Twelve entries of one kind and state. -/
def fullTable (t : Tracker) : State :=
  let s := sample .active 0
  s.withTracking { s.tracking with entries := List.replicate 12 t }

/-- Twelve candidates at 100, the one of id 3 the oldest. -/
def candidates : State := { fullTable (candidate 50) with airClock := 100 }.setTracker 3 (candidate 20)

/-- A record 20,004 µs after the rise of candidate 0. -/
theorem witness_CandidatesTakeTheirPlaces :
    (candidates.tracking.entries.length = 12 ∧ (∀ j < 12, (candidates.tracker j).state ≠ .free) ∧
      (candidates.tracker 3).state = .candidate ∧
      ∀ j < 12, (candidates.airClock - (candidates.tracker j).rise).toNat < (candidates.airClock - 20).toNat ∨ j = 3) ∧
    (∀ j < 12, ((fullTable (oven .dormant)).tracker j).state = .dormant ∧
      ((fullTable (oven .dormant)).tracker j).kind = .oven ∧ ((fullTable (oven .dormant)).tracker j).lastHit = some 0) ∧
    (let s := withTracker (candidate 100000) (sample .active 130000)
     s.tracking.entries.length = 12 ∧ (s.tracker 0).state = .candidate ∧ 6 ∈ (s.tracker 0).span ∧
       (s.airClock - (s.tracker 0).rise).toNat < 100000 ∧ 15000 * 1 ≤ ((120004 : Instant) - (s.tracker 0).rise).toNat ∧
       ((120004 : Instant) - (s.tracker 0).rise).toNat ≤ 21000 * 1 ∧ ∀ j < 12, (s.tracker j).state = .candidate → j = 0) ∧
    (let s := withTracker (candidate 100000) (sample .active 200000)
     (s.tracker 0).state = .candidate ∧ ¬ (s.airClock - (s.tracker 0).rise).toNat < 100000 ∧
       15000 * 4 ≤ ((170000 : Instant) - (s.tracker 0).rise).toNat ∧
       ((170000 : Instant) - (s.tracker 0).rise).toNat ≤ 21000 * 4) ∧
    ((record 0).structured = false ∧ 3000 ≤ ({ record 0 with duration := 3000 } : BurstRecord).duration ∧
      ¬ 3000 ≤ (record 0).duration ∧ ∀ j < 12, ((sample .active 0).tracker j).state ≠ .candidate) := by
  decide +kernel

theorem witness_DeclaredBeaconsAndCandidatesTakeTheirPlaces :
    Ready (sample .active 0) ∧ (sample .active 0).tracking.entries.length = 12 ∧
    (timeCodeValue 0x1387 < 20000 ∧ 5000 < timeCodeValue 0x14E3) ∧
    (timeCodeValue 0x24E2 = 20000 ∧ timeCodeValue 0x14E2 = 5000 ∧ (0x24E2 : Half).getLsbD 15 = false ∧
      (0x14E2 : Half).getLsbD 15 = false) ∧
    4 ≤ (fullTable (beacon .locked true)).tracking.entries.countP (fun e => decide (e.kind = .beacon ∧ e.state ≠ .free)) ∧
    ((withTracker (oven .locked) (sample .active 0)).tracker 1).state = .free ∧
    (∀ j < 1, ((withTracker (oven .locked) (sample .active 0)).tracker j).state ≠ .free) ∧
    (∀ id < 12, ((fullTable (oven .locked)).tracker id).state ≠ .free ∧
      ((fullTable (oven .locked)).tracker id).state ≠ .candidate ∧
      (((fullTable (oven .locked)).tracker id).state = .dormant → ((fullTable (oven .locked)).tracker id).kind = .beacon)) :=
  ⟨sample_ready _ _, by decide +kernel⟩

theorem witness_TrackerForgottenAndRead :
    Ready (withTracker (oven .locked) (sample .active 0)) ∧ 11 < (12 : Byte).toNat ∧
    ((11 : Byte).toNat ≤ 11 ∧ ((withTracker (oven .locked) (sample .active 0)).tracker (11 : Byte).toNat).state = .free) ∧
    ((0 : Byte).toNat ≤ 11 ∧ ((withTracker (oven .locked) (sample .active 0)).tracker (0 : Byte).toNat).state ≠ .free) :=
  ⟨⟨rfl, rfl, rfl, Nat.zero_le _⟩, by decide +kernel⟩

theorem witness_SetTrackingAppliesTheSettings :
    Ready (sample .active 0) ∧ (0x8000 : Half).getLsbD 15 = true ∧ (0x17D1 : Half).getLsbD 15 = false ∧
    (let s := withTracker { oven .locked with misses := 2 } (sample .active 0)
     Ready s ∧ s.tracking.entries.length = 12 ∧ (s.tracker 0).state = .locked ∧
       max 2 (min 31 (0 : Byte).toNat) ≤ (s.tracker 0).misses) :=
  ⟨sample_ready _ _, by decide, by decide, ⟨rfl, rfl, rfl, Nat.zero_le _⟩, by decide +kernel⟩

theorem witness_RulesReplacedAndRead :
    Ready (sample .active 0) ∧ (1 : Byte).toNat ≠ ([] : List RuleBytes).length ∧
    ((0 : Byte).toNat = ([] : List RuleBytes).length) ∧
    (let rules : List Rule := List.replicate 8 { predicate := .always, invert := false, action := .shut }
     (8 : Byte).toNat = rules.length ∧ 1 ≤ rules.length ∧ rules.length ≤ 8) :=
  ⟨sample_ready _ _, by decide +kernel⟩

theorem witness_TemplateArmedAndDropped :
    (Ready (sample .fallback 0) ∧ (0x8000 : Half).getLsbD 15 = true ∧ (sample .fallback 0).control.mode = .fallback) ∧
    (Ready (sample .active 0) ∧ (sample .active 0).planner.template = none ∧ (sample .active 0).control.mode ≠ .fallback) ∧
    (withTemplateHeld (sample .active 0)).planner.template ≠ none ∧
    (Ready rankedState ∧ (rankedState.tracker 0).kind = .oven ∧ (rankedState.tracker 0).state = .locked ∧
      rankedState.dwells.operating = some 6 ∧ (rankedState.tracker 0).span = [6] ∧
      (rankedState.tracker 1).hits = (rankedState.tracker 0).hits) :=
  ⟨⟨sample_ready _ _, by decide +kernel⟩, ⟨sample_ready _ _, by decide +kernel⟩, by decide +kernel,
    ⟨rfl, rfl, rfl, Nat.zero_le _⟩, by decide +kernel⟩

/-- A lane A queue that fills both its reserve and the shared capacity. -/
def fullLaneA : State := queued (List.replicate 14 (entry 2000000 .pending)) [] (sample .active 0)

theorem witness_BookGrantsOrRefuses :
    (timeCodeValue 99 < 100 ∧ 1000000 < timeCodeValue 0x4F43) ∧ Ready (sample .hold 0) ∧
    (100 ≤ timeCodeValue 100 ∧ timeCodeValue 0x4F42 ≤ 1000000 ∧ 0 + timeCodeValue 100 ≤ timeCodeValue 0x4F42) ∧
    (Ready (queued [entry 2000 .committed] [] (sample .active 0)) ∧
      ∃ e ∈ (queued [entry 2000 .committed] [] (sample .active 0)).planner.queue,
        e.lane = .a ∧ e.origin = .oneShot 1) ∧
    fullLaneA.planner.admits .a = false ∧
    ((planned 1203000).planner.admits .a = true ∧
      placementSearch (planned 1203000) none 500 40000 1500 = some 13467) ∧
    (placementSearch (planned 1203020) none 500 40000 4000 = none ∧
      longestOpenRun (planned 1203020) 500 40000 < 4000) ∧
    (let s := queued [{ entry 1216467 .pending with length := 3000 }] [] (planned 1203030)
     placementSearch s none 500 20000 3000 = none ∧ 3000 ≤ longestOpenRun s 500 20000) :=
  ⟨by decide +kernel, sample_ready _ _, by decide +kernel, ⟨⟨rfl, rfl, rfl, Nat.zero_le _⟩, by decide +kernel⟩,
    by decide +kernel⟩

theorem witness_CancelAndSeriesClose :
    Ready (queued [entry 2000 .opened] [series] (sample .active 2500)) ∧ 1 < (2 : Byte).toNat ∧
    (queued [entry 2000 .opened] [series] (sample .active 2500)).planner.queue.find?
      (fun e => decide (e.lane = .a ∧ e.origin = .oneShot 1)) = some (entry 2000 .opened) ∧
    (queued [entry 2000 .opened] [series] (sample .active 2500)).planner.series.find?
      (fun x => decide (x.lane = .b ∧ x.tag = 2)) = some series ∧
    (∀ e ∈ (queued [entry 2000 .opened] [series] (sample .active 2500)).planner.queue,
      ¬ (e.lane = .b ∧ e.origin = .oneShot 1)) ∧
    (∀ x ∈ (queued [entry 2000 .opened] [series] (sample .active 2500)).planner.series, ¬ (x.lane = .a ∧ x.tag = 2)) :=
  ⟨⟨rfl, rfl, rfl, Nat.zero_le _⟩, by decide +kernel⟩

theorem witness_SeriesOpenCreatesTheSeries :
    timeCodeValue 1999 < 2000 ∧
    (2000 ≤ timeCodeValue 2000 ∧ timeCodeValue 0x3C35 ≤ 200000 ∧ 100 ≤ timeCodeValue 100 ∧ 2 * 1000 ≤ 2000 ∧
      100 + 1000 ≤ 2000) ∧
    Ready (queued [] [series] (planned 1203000)) ∧
    4 ≤ (queued [] (List.replicate 4 series) (planned 1203000)).planner.series.length ∧
    fullLaneA.planner.admits .a = false ∧
    ((queued [] [series] (planned 1203000)).planner.admits .a = true ∧
      placementSearch (queued [] [series] (planned 1203000)) none 500 (500 + 20000 + 2500) 2500 = some 13467 ∧
      (∀ x ∈ (queued [] [series] (planned 1203000)).planner.series, x.id ≠ 1) ∧
      (∀ j < 1, ∃ x ∈ (queued [] [series] (planned 1203000)).planner.series, x.id = j)) ∧
    placementSearch (planned 1203000) none 500 (500 + 20000 + 4000) 4000 = none :=
  ⟨by decide +kernel, by decide +kernel, ⟨rfl, rfl, rfl, Nat.zero_le _⟩, by decide +kernel⟩

theorem witness_LaneReservesAndReadBookings :
    (Ready (sample .active 0) ∧ (sample .active 0).control.mode ≠ .standby) ∧
    (Ready (sample .standby 0) ∧ (sample .standby 0).control.mode = .standby) ∧ 1 < (2 : Byte).toNat :=
  ⟨⟨sample_ready _ _, by decide +kernel⟩, ⟨sample_ready _ _, rfl⟩, by decide⟩

/-- A filled fault record. -/
def faulted : State :=
  let s := sample .active 12340200
  s.withEscalation { s.escalation with
    fault := some
      { instant := 12340200, channel := 6, modeBefore := .active, policy := .fallback, action := .fallback
        surpriseStart := 12330900, surpriseDuration := 9300, further := 0 } }

theorem witness_EscalationSettingsAndFaultRecord :
    Ready faulted ∧ 3 < (4 : Byte).toNat ∧ faulted.escalation.fault.isSome = true ∧
    (sample .active 0).escalation.fault = none :=
  ⟨⟨rfl, rfl, rfl, Nat.zero_le _⟩, by decide +kernel⟩

theorem witness_CharacterAdvancesTheReceiver :
    Running (sample .active 1000) ∧ (lowLine .active).link.waitHigh = false ∧ (240 < (241 : Byte).toNat) ∧
    (240 : Byte).toNat ≤ 240 ∧
    (withReceiver (.header 0 []) (sample .active 1000)).link.receiver = .header 0 [] ∧
    (withReceiver (.payload 0 2 1 7 [0]) (sample .active 1000)).link.receiver = .payload 0 2 1 7 [0] ∧
    ([] : List Byte).length + 1 < (2 : Byte).toNat ∧ (2 : Byte).toNat ≤ [(0 : Byte)].length + 1 :=
  ⟨rfl, by decide +kernel⟩

theorem witness_FramingErrorsAndTimeouts :
    (Running (withReceiver (.header 0 []) (sample .active 3000)) ∧
      (withReceiver (.header 0 []) (sample .active 3000)).link.waitHigh = false ∧
      unfinishedSince (withReceiver (.header 0 []) (sample .active 3000)).link.receiver = some 0 ∧
      3000 ≤ ((withReceiver (.header 0 []) (sample .active 3000)).airClock - 0).toNat) ∧
    (Running (lowLine .active) ∧ 1000 ≤ ((lowLine .active).airClock - 0).toNat) :=
  ⟨⟨rfl, by decide +kernel⟩, rfl, by decide +kernel⟩

theorem witness_CompleteFrameIsJudged :
    (Running (framed 0x03 7 [] (crc8 [0, 0x03, 7]) (sample .active 1000)) ∧
      (framed 0x03 7 [] (crc8 [0, 0x03, 7]) (sample .active 1000)).control.mark = none ∧
      requestOf (.time 7) = some { kind := 0x03, ticket := 7, payload := [] }) ∧
    crc8 [0, 0x03, 7] ≠ crc8 [0, 0x03, 8] ∧ (∀ k : RequestKind, k.code ≠ 0x07) ∧
    (withReplies 3 (sample .active 1000)).link.replies.length < 4 ∧
    4 ≤ (withReplies 4 (sample .active 1000)).link.replies.length :=
  ⟨⟨rfl, rfl, rfl⟩, by decide +kernel, by intro k; cases k <;> decide, by decide +kernel⟩

/-- A frame whose last stop bit ends at 130, with replies, reports and requests waiting. -/
def transmitted (replies reports inbox : List Frame) : State :=
  let s := sample .active 130
  s.withLink { s.link with
    sending := some { frame := someFrame, endsAt := 130 }, replies := replies, reports := reports, inbox := inbox }

theorem witness_FrameTransmittedFreesThePlace :
    (Running (transmitted [someFrame] [] []) ∧ (transmitted [someFrame] [] []).control.mark = none ∧
      (transmitted [someFrame] [] []).link.sending = some { frame := someFrame, endsAt := 130 } ∧
      Instant.atOrBefore 130 (transmitted [someFrame] [] []).airClock = true ∧
      (transmitted [someFrame] [] []).link.replies = [someFrame] ∧
      (transmitted [] [someFrame] []).link.reports = [someFrame]) ∧
    (let s := transmitted [] [] [{ kind := 0x03, ticket := 7, payload := [] }]
     s.control.mark = none ∧ s.link.replies.length ≤ 2 ∧
       s.link.inbox = [{ kind := 0x03, ticket := 7, payload := [] }] ∧ (0x03 : Byte) = RequestKind.time.code) ∧
    (let s := (transmitted [someFrame] [] []).withControl { State.reset.control with mark := some .warm }
     Running s ∧ s.control.mark = some .warm ∧ s.link.sending = some { frame := someFrame, endsAt := 130 } ∧
       ¬ (someFrame.kind = 0x86 ∧ someFrame.payload.head? = some 0x00)) ∧
    (let s (now : Instant) := { transmitted [] [] [] with airClock := now }
     Running (s 70) ∧ someFrame.payload.length ≤ 240 ∧
       (s 70).link.sending
         = some { frame := someFrame, endsAt := 70 + BitVec.ofNat 32 (10 * (someFrame.payload.length + 5)) } ∧
       [0xA5#8, 0x01, 0x81, 0x00, 0x00, crc8 [0x01, 0x81, 0x00, 0x00]][5]? = some (crc8 [0x01, 0x81, 0x00, 0x00]) ∧
       (s 120).airClock = 70 + BitVec.ofNat 32 (10 * 5) ∧ (s 128).airClock = 70 + BitVec.ofNat 32 (10 * 5 + 1 + 7) ∧
       (s 129).airClock = 70 + BitVec.ofNat 32 (10 * 5 + 9) ∧ (s 130).airClock = 70 + BitVec.ofNat 32 (10 * 6)) :=
  ⟨⟨rfl, by decide +kernel⟩, by decide +kernel, ⟨rfl, by decide +kernel⟩, rfl, by decide +kernel⟩

theorem witness_BlankingCutsWhatIsObserved :
    (let s := (sample .active 3000).withSense { State.reset.sense with blanking := .active none }
     Running s ∧ s.sense.blanking ≠ .inactive) ∧
    (Running (observing (.quiet { count := 4, first := 2984, code := .openAir }) (sample .active 3000)) ∧
      (observing (.quiet { count := 4, first := 2984, code := .openAir }) (sample .active 3000)).sense.blanking
        = .inactive) ∧
    (observing (.inBurst 0 burst) (sample .active 3000)).sense.detector = .inBurst 0 burst ∧
    (observing (.inBurst 11 burst) (sample .active 3044)).sense.blanking = .inactive :=
  ⟨⟨rfl, by decide +kernel⟩, ⟨rfl, rfl⟩, rfl, rfl⟩

theorem witness_ObservationBegins :
    (let s := (sample .active 3000).withSense { State.reset.sense with
        blanking := .active none, settings := { State.reset.sense.settings with tail := 0 } }
     Running s ∧ s.sense.blanking = .active none ∧ s.sense.settings.tail = 0) ∧
    State.reset.sense.settings.tail ≠ 0 ∧ State.reset.sense.blanking ≠ .active none ∧
    Instant.atOrBefore 3000 (sample .active 3000).airClock = true ∧
    (let s := observing (.quiet Run.empty) (sample .active 600001001)
     s.sense.observedSince = some 1000 ∧ 600000000 < (s.airClock - 1000).toNat) :=
  ⟨⟨rfl, by decide +kernel⟩, by decide +kernel⟩

/-- The hypotheses common to the readings, at a reading's end. -/
def readable (s : State) : Bool :=
  decide (s.airClock.toNat % 4 = 0 ∧ s.sense.readingTaken = false ∧ s.sense.tuning = .settled ∧
    s.sense.blanking = .inactive ∧ s.sense.observedSince = some 1000 ∧
    Instant.atOrBefore 1000 (s.airClock - 4) = true ∧
    Instant.atOrBefore s.sense.restartPoint (s.airClock - 4) = true)

theorem witness_ReadingsInQuiet :
    Running (observing (.quiet { count := 4, first := 984, code := .openAir }) (sample .active 1004)) ∧
    readable (observing (.quiet Run.empty) (sample .active 1004)) = true ∧
    readable (observing (.quiet { count := 4, first := 984, code := .openAir }) (sample .active 1004)) = true ∧
    max (-100) (min 0 (-73)) < (-72 : Int) ∧ (-72 : Int) ≤ max (-100) (min 0 (-72)) ∧
    (observing (.quiet Run.empty) (sample .active 1004)).sense.settings.threshold = -72 :=
  ⟨rfl, by decide +kernel⟩

theorem witness_ReadingsInBurst :
    (Running (observing (.inBurst 11 burst) (sample .active 3044)) ∧
      readable (observing (.inBurst 11 burst) (sample .active 3044)) = true ∧
      readable (observing (.inBurst 10 burst) (sample .active 3040)) = true) ∧
    (Running (observing (.inBurst 0 burst) (sample .active 32000)) ∧
      ((observing (.inBurst 0 burst) (sample .active 32000)).airClock - burst.start).toNat = 30000) :=
  ⟨⟨rfl, by decide +kernel⟩, rfl, by decide +kernel⟩

theorem witness_AssemblerHoldsMergesOrReleases :
    ({ record 2000 with structured := true } : BurstRecord).structured = true ∧
    ((record 2000).structured = false ∧ (record 2000).long = false ∧ (sample .active 3500).sense.held = none ∧
      Instant.before (3000 + BitVec.ofNat 32 500) 3500 = false ∧ Instant.before (3000 + BitVec.ofNat 32 500) 3501 = true) ∧
    (((sample .active 4000).withHeld (some (heldRecord 1000))).sense.held = some (heldRecord 1000) ∧
      Instant.atOrBefore (record 2500).start (heldRecord 1000).gapEnd = true) ∧
    ((sample .active 0).withDwells { State.reset.dwells with current := some (dwell .operating) }).dwells.current
      = some (dwell .operating) ∧
    bestMatch (withTracker (oven .locked) (sample .active 30000)) (record 20004) trackerIds = some 0 ∧
    (bestMatch (sample .active 30000) (record 20004) trackerIds = none ∧
      bestMatch (sample .active 30000) { record 20004 with structured := true } trackerIds = none) := by
  decide +kernel

/-- A held record from 1,000 with gap end 2,500, in a detector state at an instant. -/
def holding (d : Detector) (now : Instant) : State :=
  (observing d (sample .active now)).withHeld (some (heldRecord 1000))

theorem witness_HeldRecordReleased :
    (Running (holding (.quiet Run.empty) 2500) ∧ (holding (.quiet Run.empty) 2500).sense.held = some (heldRecord 1000) ∧
      Instant.atOrBefore (heldRecord 1000).gapEnd (holding (.quiet Run.empty) 2500).airClock = true) ∧
    (0 < 1 ∧ Instant.atOrBefore 2500 (heldRecord 1000).gapEnd = true ∧
      Instant.atOrBefore 2501 (heldRecord 1000).gapEnd = false) ∧
    (burst.structured = false ∧ Instant.atOrBefore burst.start (heldRecord 1000).gapEnd = true ∧
      30000 ≤ ((holding (.inBurst 0 burst) 31000).airClock - (heldRecord 1000).record.start).toNat ∧
      30000 < ((holding (.inBurst 0 burst) 31001).airClock - (heldRecord 1000).record.start).toNat) :=
  ⟨⟨rfl, by decide +kernel⟩, by decide +kernel⟩

/-- A dwell of a kind at its planned end, with a scan list, pointer and group. -/
def dwelling (k : DwellKind) (channels : List Nat) (pointer group : Nat) : State :=
  let s := sample .active 200000
  s.withDwells { s.dwells with
    current := some (dwell k), pointer := pointer, group := group
    plan := { s.dwells.plan with channels := channels, interleave := .sparse } }

/-- Every channel visited, O at load 900 and the others at 100, at the end of a scan cycle. -/
def advising (armed : Bool) (passes margin : Nat) : State :=
  let s := dwelling .offChannel [1, 11] 2 0
  s.withDwells { s.dwells with
    advice := { armed := armed, passes := passes }, plan := { s.dwells.plan with margin := margin }
    records := (List.range 13).map (fun i =>
      { visited := true, load := if i = 5 then 900 else 100, unstructuredLoad := 0, lastVisitEnd := 0, visits := 1 }) }

/-- The cycle's end passes for channel 1 at O's load of 787, with the advice armed at 0 and 2 passes and not armed, and
fails for a margin above 687. -/
theorem witness_DwellEndTestsTheAdvice :
    (advicePasses (closeDwell (advising true 0 687)) = some (6, 1) ∧
      advicePasses (closeDwell (advising true 2 687)) = some (6, 1) ∧
      advicePasses (closeDwell (advising false 0 687)) = some (6, 1) ∧
      advicePasses (closeDwell (advising true 0 688)) = none) ∧
    (∀ i c, (advising true 0 687).dwells.pointer ≤ i → (advising true 0 687).dwells.plan.channels[i]? = some c → c = 6) ∧
    (let s := dwelling .survey [1, 6] 0 0
     Running s ∧ s.dwells.current = some (dwell .survey) ∧ (dwell .survey).kind = .survey) := by
  refine ⟨by decide +kernel, fun i c h h' => ?_, rfl, by decide +kernel⟩
  rw [show (advising true 0 687).dwells.plan.channels = [1, 11] from rfl, List.getElem?_eq_none h] at h'
  cases h'

theorem witness_DwellEndBringsTheNextDwell :
    (Running (dwelling .offChannel [1, 6, 11] 1 1) ∧
      (dwelling .offChannel [1, 6, 11] 1 1).dwells.current = some (dwell .offChannel) ∧
      Instant.atOrBefore (dwell .offChannel).plannedEnd (dwelling .offChannel [1, 6, 11] 1 1).airClock = true ∧
      (dwelling .offChannel [1, 6, 11] 1 1).dwells.operating = some 6) ∧
    ((dwelling .offChannel [1, 6, 11] 1 1).dwells.survey.phase ≠ .waiting ∧
      (dwelling .offChannel [1, 6, 11] 1 1).dwells.pendingPlan = none ∧ [1, 6, 11][2]? = some 11 ∧
      (dwelling .offChannel [1, 6, 11] 1 1).dwells.forceOperating = false ∧
      (dwelling .offChannel [1, 6, 11] 1 1).dwells.group < 3 ∧ 3 ≤ (dwelling .offChannel [1, 6, 11] 1 3).dwells.group) ∧
    ((∀ c ∈ (dwelling .operating [6] 0 0).dwells.plan.channels, c = 6)) ∧
    ((dwelling .offChannel [1, 6] 2 1).dwells.pointer = 2 ∧ [1, 6].length ≤ 2) ∧
    (dwelling .offChannel [1, 6, 11] 1 1).sense.held = none ∧ (dwell .offChannel).observed = 10000 :=
  ⟨⟨rfl, by decide +kernel⟩, by decide +kernel⟩

theorem witness_ScoreDrainsAndSurprisesEscalate :
    (Running (sample .active 4294750000) ∧ (sample .active 4294750000).airClock.toNat % 250000 = 0 ∧
      (sample .active 4294750000).escalation.drained = false) ∧
    ((record 0).structured = false ∧ (sample .active 0).dwells.operating = some (record 0).channel ∧
      (record 0).cutAtStart = false ∧ 200 ≤ ({ record 0 with duration := 200 } : BurstRecord).duration ∧
      (record 0).code ≠ .shut ∧ (sample .active 0).control.mode = .active) ∧
    (let s := sample .active 0
     min 15 (s.escalation.score + 1) < s.escalation.threshold) ∧
    (let s := (sample .active 0).withEscalation { State.reset.escalation with score := 3 }
     s.escalation.threshold ≤ min 15 (s.escalation.score + 1)) ∧
    (let s (p : Policy) := (withTracker (oven .locked) (sample .active 0)).withEscalation
       { State.reset.escalation with score := 3, policy := p }
     (s .report).escalation.policy = .report ∧ (s .relearn).escalation.policy = .relearn ∧
       (s .relearn).tracking.entries.length = 12 ∧
       (∃ x ∈ (s .relearn).tracking.entries, x.kind = .oven ∧ x.state = .locked) ∧
       (∀ x ∈ (sample .active 0).tracking.entries, ¬ (x.kind = .oven ∧ x.state = .locked)) ∧
       (s .hold).escalation.policy = .hold ∧
       (withTemplateHeld (s .fallback)).planner.template.isSome = true ∧ (s .fallback).planner.template = none) ∧
    (let l := { Link.cold with replies := [someFrame, { kind := 0x8A, ticket := 1, payload := [0, 3] }] }
     l.replies = [someFrame] ++ [{ kind := 0x8A, ticket := 1, payload := [0, 3] }] ∧ 0 < 1 ∧ Link.cold.replies = []) :=
  ⟨⟨rfl, by decide +kernel⟩, by decide +kernel⟩

/-- A LOCKED oven whose rise at 20,000 is tested at 20,400, observed since 1,000. -/
def tested (t : Tracker) (d : Detector) : State := withTracker t (observing d (sample .active 20400))

theorem witness_PredictedRiseDecided :
    (Running (tested (oven .locked) (.quiet Run.empty)) ∧
      0 < (tested (oven .locked) (.quiet Run.empty)).tracking.entries.length ∧
      (tested (oven .locked) (.quiet Run.empty)).tracker 0 = oven .locked ∧
      Instant.atOrBefore (BitVec.ofNat 32 ((320000 + 15) / 16) + BitVec.ofNat 32 400) 20400 = true ∧
      6 ∈ (oven .locked).span ∧ Instant.atOrBefore 1000 (BitVec.ofNat 32 (320000 / 16) - BitVec.ofNat 32 400) = true) ∧
    (heldStarts (tested (oven .locked) (.quiet Run.empty)).sense).all (fun i => !inCapture 320000 400 i) = true ∧
    (inCapture 320000 400 19600 = true ∧ inCapture 320000 400 20400 = true ∧
      19600 ∈ heldStarts (tested (oven .locked) (.inBurst 0 { burst with start := 19600 })).sense) ∧
    (min 31 (6 + 1) < State.reset.tracking.settings.missLimit ∧ State.reset.tracking.settings.missLimit ≤ min 31 (7 + 1)) :=
  ⟨⟨rfl, by decide +kernel⟩, by decide +kernel⟩

/-- A demoted oven with its pending rise to be tested again at 22,000, observed since 1,000. -/
def retested (d : Detector) : State :=
  withTracker { oven .acquiring with pendingRise := some { rise := 320000, halfWidth := 2000, retest := true } }
    (observing d (sample .active 22000))

/-- The second test with something held and with nothing held; a sweep and a record that settle, or leave, a rise. -/
theorem witness_PendingRiseTestedAgainAndSettled :
    (Running (retested (.quiet Run.empty)) ∧ 0 < (retested (.quiet Run.empty)).tracking.entries.length ∧
      Instant.atOrBefore (BitVec.ofNat 32 ((320000 + 15) / 16) + BitVec.ofNat 32 2000) 22000 = true ∧
      Instant.atOrBefore 1000 (BitVec.ofNat 32 (320000 / 16) - BitVec.ofNat 32 2000) = true) ∧
    (heldStarts (retested (.quiet Run.empty)).sense = [] ∧
      18000 ∈ heldStarts (retested (.inBurst 0 { burst with start := 18000 })).sense ∧
      inCapture 320000 2000 18000 = true ∧ inCapture 320000 2000 17999 = false ∧ inCapture 320000 2000 22000 = true ∧
      inCapture 320000 2000 22001 = false) ∧
    ((oven .locked).pendingRise = none ∧ min 31 (2 + 1) = 3 ∧ (oven .acquiring).state = .acquiring ∧
      (beacon .acquiring true).kind = .beacon) :=
  ⟨⟨rfl, by decide +kernel⟩, by decide +kernel⟩

theorem witness_AgeLimitsRetireEntries :
    (let s := withTracker { Tracker.free with state := .candidate } (sample .active 100000)
     Running s ∧ 0 < s.tracking.entries.length ∧ (s.tracker 0).state = .candidate ∧
       100000 ≤ (s.airClock - (s.tracker 0).rise).toNat) ∧
    ((oven .locked).lastHit = some 0 ∧ (oven .locked).kind = .oven ∧ (beacon .acquiring true).anchored = true ∧
      5000000 ≤ ((sample .active 5000000).airClock - 0).toNat ∧
      ((sample .active 4999999).airClock - 0).toNat < 5000000) ∧
    ((oven .dormant).state = .dormant ∧ (beacon .dormant true).lastHit = some 0 ∧
      60000000 ≤ ((sample .active 60000000).airClock - 0).toNat ∧
      600000000 ≤ ((sample .active 600000000).airClock - 0).toNat) ∧
    (((sample .active 99999).airClock - 0).toNat < 100000 ∧
      ((sample .active 59999999).airClock - 0).toNat < 60000000 ∧
      ((sample .active 599999999).airClock - 0).toNat < 600000000) :=
  ⟨⟨rfl, by decide +kernel⟩, by decide +kernel⟩

theorem witness_NearestRiseAndLockedHit :
    0 < (oven .locked).period ∧
    ((withTracker (oven .locked) (sample .active 30000)).tracker 0 = oven .locked ∧
      (oven .locked).cycles (record 20004).start = (1 : Nat) ∧
      ((oven .locked).residual (record 20004).start).natAbs ≤ 64 ∧
      64 < ((oven .locked).residual (record 20005).start).natAbs) := by
  decide +kernel

/-- A record at 100 of 13,000 µs that extends, and one of 9,500 µs that does not; a hit at 20,000 that leaves the run of an
ACQUIRING entry below the lock run or brings it there; one of a DORMANT entry; and a beacon to anchor. -/
theorem witness_AbsorptionAcquisitionAndAnchoring :
    ((oven .locked).cycles 100 ≤ 0 ∧ (oven .locked).cycles 100 = 0 ∧ (oven .locked).lastHit = some 0 ∧
      Instant.before (0 + BitVec.ofNat 32 (oven .locked).onDuration) 13100 = true ∧
      Instant.before (0 + BitVec.ofNat 32 (oven .locked).onDuration) 9500 = false) ∧
    ((oven .acquiring).cycles 20000 = (1 : Nat) ∧ (1 : Nat) ≤ 1 ∧ ((oven .acquiring).residual 20000).natAbs ≤ 6400 ∧
      6400 < ((oven .acquiring).residual 20401).natAbs ∧ (oven .acquiring).state = .acquiring ∧
      (oven .dormant).state = .dormant ∧ min 15 (4 + 1) < State.reset.tracking.settings.lockRun ∧
      State.reset.tracking.settings.lockRun ≤ min 15 (5 + 1)) ∧
    ((oven .locked).isMatch (record 20400) = true ∧ (oven .locked).isMatch (record 20401) = false) ∧
    (let s := withTracker (beacon .acquiring false) (sample .active 0)
     0 < s.tracking.entries.length ∧ (s.tracker 0).kind = .beacon ∧ (s.tracker 0).anchored = false ∧
       (s.tracker 0).channel = (record 0).channel ∧
       ({ record 0 with duration := 600 } : BurstRecord).duration ≤ (s.tracker 0).onDuration + 200) := by
  decide +kernel

theorem witness_LinesShowTheFormedCode :
    (Running (withTracker (oven .locked) (sample .active 100000)) ∧
      ((withTracker (oven .locked) (sample .active 100000)).tracker 0).lastHit = some 0 ∧
      0 < ((sample .active 100000).airClock - 0).toNat ∧ 100000 ∣ ((sample .active 100000).airClock - 0).toNat) ∧
    ((withTemplateHeld (sample .active 600000000)).planner.template = some template ∧
      600000000 ≤ ((sample .active 600000000).airClock - BitVec.ofNat 32 (template.anchor.toNat / 16)).toNat ∧
      Instant.atOrBefore (BitVec.ofNat 32 (template.anchor.toNat / 16)) 600000000 = true ∧
      Instant.atOrBefore (BitVec.ofNat 32 ((1600 : Sixteenth).toNat / 16)) 0 = false) ∧
    ((planned 1199700).planner.rules[0]? = some { predicate := .ovenLocked, invert := false, action := .shut } ∧
      ({ predicate := .ovenLocked, invert := false, action := .shut } : Rule).test (planned 1199700) 0 = true) ∧
    (queued [entry 2000 .opened] [] (sample .active 2999)).planner.queue.find?
      (fun e => decide (e.state = .opened ∧ ((2999 : Instant) - e.start).toNat < e.length)) = some (entry 2000 .opened) :=
  ⟨⟨rfl, by decide +kernel⟩, by decide +kernel⟩

theorem witness_PredicatesReadTheWindows :
    (∀ e ∈ (planned 1199700).tracking.entries, e.state = .acquiring ∨ e.state = .locked → 0 < e.period) ∧
    (planned 1199700).control.mode ≠ .fallback ∧
    (withTemplateHeld (sample .fallback 0)).planner.template = some template ∧ 0 < template.period ∧
    (sample .fallback 0).control.mode = .fallback := by
  decide +kernel

/-- An entry at its commit point: free to stay, to be moved, or with nowhere to go. -/
theorem witness_CommitPointRechecksTheEntry :
    (Running (queued [entry 12000 .pending] [] (sample .active 10000)) ∧
      (queued [entry 12000 .pending] [] (sample .active 10000)).planner.queue.find?
        (fun y => decide (y.state = .pending ∧ (y.start - (10000 : Instant)).toInt ≤ 2000))
        = some (entry 12000 .pending) ∧
      clearStretch (queued [entry 12000 .pending] [] (sample .active 10000)) (some 12000) 2000 1000 = true) ∧
    (let s := queued [{ entry 1216467 .pending with deadline := 1243000 }]
       [] ((planned 1214467).setTracker 1 { (planned 1214467).tracker 1 with lastHit := some 1114467 })
     clearStretch s (some 1216467) 2000 1000 = false ∧
       placementSearch s (some 1216467) 2000 (1243000 - 1214467) 1000 = some 2020 ∧
       placementSearch s (some 1216467) 2000 3000 1000 = none) ∧
    ((queued [] [series] (sample .active 10000)).planner.queue.find?
        (fun y => decide (y.start = 12000 ∧ y.state = .pending)) = none ∧
      (queued [entry 12000 .pending] [] (sample .active 10000)).planner.queue.find?
        (fun y => decide (y.start = 12000 ∧ y.state = .pending)) = some (entry 12000 .pending)) ∧
    ((queued [] [series] (sample .active 10000)).planner.series.find? (fun y => decide (y.id = 0)) = some series ∧
      (queued [] [series] (sample .active 10000)).planner.series.find? (fun y => decide (y.id = 1)) = none ∧
      series.consecutiveSkips + 1 < 3 ∧ 3 ≤ ({ series with consecutiveSkips := 2 } : Series).consecutiveSkips + 1) :=
  ⟨⟨rfl, by decide +kernel⟩, by decide +kernel⟩

theorem witness_WindowsOpenAndEnd :
    (Running (queued [entry 12000 .committed] [] (sample .active 12000)) ∧
      (queued [entry 12000 .committed] [] (sample .active 12000)).planner.queue.find?
        (fun y => decide (y.state = .committed ∧ (y.start - (12000 : Instant)).toInt ≤ 0))
        = some (entry 12000 .committed)) ∧
    (Running slotTaken ∧ (slotTaken.planner.series.find? (fun y => decide (y.id = 0))).isSome = true ∧
      slotTaken.planner.admits .b = true) ∧
    (queued [entry 12000 .opened] [] (sample .active 13000)).planner.queue.find?
      (fun y => decide (y.state = .opened ∧ (y.start - (13000 : Instant)).toInt + y.length ≤ 0))
      = some (entry 12000 .opened) ∧
    (placementSearch (queued [] [{ series with length := 4000 }] (planned 1203000)) none 500 8000 4000 = none ∧
      series.consecutiveSkips + 1 < 3 ∧ 3 ≤ ({ series with consecutiveSkips := 2 } : Series).consecutiveSkips + 1) :=
  ⟨⟨rfl, by decide +kernel⟩, ⟨rfl, by decide +kernel⟩, by decide +kernel⟩

/-- A series whose retry instant is now, under the plan of 7.11.1. -/
def retrying (length : Nat) : State :=
  queued [] [{ series with id := 1, length := length, retry := some 1203000 }] (planned 1203000)

theorem witness_SeriesRetriesItsRebase :
    (Running (retrying 2500) ∧
      (retrying 2500).planner.series.find? (fun y => decide (y.id = 1))
        = some { series with id := 1, length := 2500, retry := some 1203000 } ∧
      Instant.atOrBefore 1203000 (retrying 2500).airClock = true ∧
      (retrying 2500).planner.series.find? (fun z => decide (z.id = 0)) = none) ∧
    ((retrying 2500).planner.admits .b = true ∧
      placementSearch (retrying 2500) none 500 (500 + 20000 + 2500) 2500 = some 13467) ∧
    placementSearch (retrying 4000) none 500 (500 + 20000 + 4000) 4000 = none :=
  ⟨⟨rfl, by decide +kernel⟩, by decide +kernel⟩

theorem witness_PlacementSearchFindsTheEarliestClearWindow :
    placementSearch (planned 1203000) none 500 40000 1500 = some 13467 ∧
    placementSearch (planned 1203000) none 500 40000 4000 = none ∧
    clearStretch (planned 1203000) none 13467 3233 = true ∧ clearStretch (planned 1203000) none 13467 3234 = false := by
  decide +kernel

theorem witness_LongestOpenRunIsExact : (500 : Int) ≤ 40000 ∧ longestOpenRun (planned 1203020) 500 40000 = 3233 := by
  decide +kernel

theorem witness_TimeCodesAndCrc : 67092480 ≤ 67092480 ∧ (0x7FFF : Half).getLsbD 15 = false := by decide

/-- The invariants hold at a state with bookings, from which the step of a waiting command answers a next state. -/
theorem witness_StepKeepsTheInvariants :
    LinkBounded slotTaken ∧ EscalationBounded slotTaken ∧ RecordsSound slotTaken ∧ BookingsByMode slotTaken ∧
    QueueAdmitted slotTaken ∧ LinesByMode slotTaken ∧
    ∃ t, step (slotTaken.withPending [.windowStart]) = .next t := by
  refine ⟨by unfold LinkBounded; decide +kernel, ?_, by unfold RecordsSound; decide +kernel, by unfold BookingsByMode; decide +kernel,
    by unfold QueueAdmitted; decide +kernel, by unfold LinesByMode; decide +kernel, ⟨_, rfl⟩⟩
  exact ⟨by decide +kernel, by decide +kernel, by decide +kernel, fun f hf => by cases hf⟩

/-- The tracker table is sound in a state with two LOCKED ovens. -/
theorem witness_StepKeepsTheTrackerTableSound : TrackingSound (planned 1203000) := by
  unfold TrackingSound Tracker.sound
  decide +kernel

end Sys2Proof.Tests
end

section
/-! PROOFS. Time codes and the CRC. -/

namespace Sys2Proof.Machine

/-! ### Time codes (R8, R9) -/

/-- The rounded-up mantissa at a scale is the least one whose value reaches `v`. -/
theorem mantissaAt_le_iff (v s m : Nat) : mantissaAt v s ≤ m ↔ v ≤ m * 4 ^ s := by
  rw [mantissaAt, ← Nat.ceilDiv_eq_add_pred_div, ceilDiv_le_iff_le_mul (by positivity), Nat.mul_comm]

/-- A time code is free of a field error exactly when its number lies below 2^15 (R8). -/
theorem timeCode_good_iff (c : Half) : c.getLsbD 15 = false ↔ c.toNat < 32768 := by
  have := c.isLt
  rw [BitVec.getLsbD, Nat.testBit_eq_decide_div_mod_eq, decide_eq_false_iff_not]
  omega

/-- The value of a time code whose number is put together from a scale and a mantissa that fits (R8). -/
theorem timeCodeValue_of_toNat {c : Half} {s m : Nat} (h : c.toNat = 4096 * s + m) (hs : s ≤ 7) (hm : m ≤ 4095) :
    timeCodeValue c = m * 4 ^ s := by
  have scale : timeCodeScale c = s := by rw [timeCodeScale, h]; omega
  have mantissa : timeCodeMantissa c = m := by rw [timeCodeMantissa, h]; omega
  rw [timeCodeValue, scale, mantissa]

/-- The time code formed for a value within R9's bound: the smallest scale whose rounded-up mantissa fits, with that
mantissa. -/
theorem timeCodeOf_spec {v : Nat} (h : v ≤ 67092480) :
    ∃ s ≤ 7, mantissaAt v s ≤ 4095 ∧ (∀ n < s, 4095 * 4 ^ n < v) ∧
      (timeCodeOf v).toNat = 4096 * s + mantissaAt v s := by
  have fits_some : ((List.range 8).find? (fun s => decide (mantissaAt v s ≤ 4095))).isSome := by
    rw [List.find?_isSome]
    exact ⟨7, by decide, decide_eq_true ((mantissaAt_le_iff v 7 4095).2 h)⟩
  obtain ⟨s, found⟩ := Option.isSome_iff_exists.1 fits_some
  obtain ⟨fits, mem, below⟩ := List.find?_range_eq_some.1 found
  have hs : s ≤ 7 := Nat.le_of_lt_succ (List.mem_range.1 mem)
  have fits := of_decide_eq_true fits
  refine ⟨s, hs, fits, fun n hn => ?_, ?_⟩
  · simpa [mantissaAt_le_iff] using below n hn
  · have scales : [0, 1, 2, 3, 4, 5, 6, 7] = List.range 8 := rfl
    simp only [timeCodeOf, scales, found, BitVec.toNat_ofNat]
    omega

/-- The time code formed is free of a field error (R8, R9). -/
theorem timeCodeOf_good {v : Nat} (h : v ≤ 67092480) : (timeCodeOf v).getLsbD 15 = false := by
  obtain ⟨s, hs, fits, _, number⟩ := timeCodeOf_spec h
  rw [timeCode_good_iff]
  omega

/-- No smaller scale than that of the time code formed can carry the value (R9). -/
theorem timeCodeOf_scale_least {v : Nat} (h : v ≤ 67092480) : ∀ n < (timeCodeOf v).toNat / 4096, 4095 * 4 ^ n < v := by
  obtain ⟨s, hs, fits, least, number⟩ := timeCodeOf_spec h
  intro n hn
  exact least n (by omega)

/-- The time code formed stands for a value at or above the one it was formed for (R9). -/
theorem le_timeCodeValue_timeCodeOf {v : Nat} (h : v ≤ 67092480) : v ≤ timeCodeValue (timeCodeOf v) := by
  obtain ⟨s, hs, fits, _, number⟩ := timeCodeOf_spec h
  rw [timeCodeValue_of_toNat number hs fits]
  exact (mantissaAt_le_iff v s _).1 le_rfl

/-- No time code carries a value from `v` on that is less than the one formed: at a smaller scale the largest mantissa
lies below `v`, and at a scale as large every value is a multiple of the unit in which `v` was rounded up (R8, R9). -/
theorem timeCodeValue_timeCodeOf_le {v : Nat} (h : v ≤ 67092480) {c : Half} (hv : v ≤ timeCodeValue c) :
    timeCodeValue (timeCodeOf v) ≤ timeCodeValue c := by
  obtain ⟨s, hs, fits, least, number⟩ := timeCodeOf_spec h
  rw [timeCodeValue_of_toNat number hs fits]
  have bound : timeCodeMantissa c ≤ 4095 := by unfold timeCodeMantissa; omega
  have scale : s ≤ timeCodeScale c := by
    by_contra small
    have beyond := least _ (Nat.lt_of_not_le small)
    have within : timeCodeValue c ≤ 4095 * 4 ^ timeCodeScale c := Nat.mul_le_mul_right _ bound
    omega
  have unit : timeCodeValue c = timeCodeMantissa c * 4 ^ (timeCodeScale c - s) * 4 ^ s := by
    rw [timeCodeValue, Nat.mul_assoc, ← Nat.pow_add, Nat.sub_add_cancel scale]
  rw [unit] at hv ⊢
  exact Nat.mul_le_mul_right _ ((mantissaAt_le_iff v s _).2 hv)

/-- Every time code carries a value within R9's bound. -/
theorem timeCodeValue_le (c : Half) : timeCodeValue c ≤ 67092480 := by
  have mantissa : timeCodeMantissa c ≤ 4095 := by unfold timeCodeMantissa; omega
  have scale : timeCodeScale c ≤ 7 := by unfold timeCodeScale; omega
  calc timeCodeValue c ≤ 4095 * 4 ^ 7 := Nat.mul_le_mul mantissa (Nat.pow_le_pow_right (by decide) scale)
    _ = 67092480 := by decide

/-- A value that a time code carries is formed back exactly. -/
theorem timeCodeOf_exact (c : Half) : timeCodeValue (timeCodeOf (timeCodeValue c)) = timeCodeValue c :=
  le_antisymm (timeCodeValue_timeCodeOf_le (timeCodeValue_le c) le_rfl) (le_timeCodeValue_timeCodeOf (timeCodeValue_le c))

/-! ### The CRC (R183) -/

/-- The CRC register combined with its own value is 0, and stays 0. -/
theorem crcByte_self (r : Byte) : crcByte r r = 0 := by
  rw [crcByte, BitVec.xor_self]
  decide

/-- A CRC appended to the bytes it covers leaves 0. -/
theorem crc8_append_crc8 (bytes : List Byte) : crc8 (bytes ++ [crc8 bytes]) = 0 := by
  rw [crc8, List.foldl_append]
  exact crcByte_self (crc8 bytes)

end Sys2Proof.Machine

section
open Sys2Proof Sys2Proof.Machine

/-- Settles O56: the scale that R9 takes is the least at which the value fits, and the values of scale `s` or more are the
multiples of `4 ^ s`. -/
theorem timeCodesAndCrc : Obligations.TimeCodesAndCrc :=
  ⟨fun _ h => ⟨timeCodeOf_good h, le_timeCodeValue_timeCodeOf h, fun _ _ hv => timeCodeValue_timeCodeOf_le h hv,
      timeCodeOf_scale_least h⟩,
    fun c _ => timeCodeOf_exact c, crc8_append_crc8⟩
end

end

section
/-! PROOFS. Commands in reset, cold starts, and the step of an empty queue. -/

namespace Sys2Proof.Machine

/-! ### Commands in reset (R12, R177) -/

/-- Every command but RESET_N low, power-up and leaving reset is one that the part takes only out of reset. -/
theorem exec_outOfReset {c : Instr} (notReset : c ≠ .resetNLow) (notPower : c ≠ .powerUp)
    (notLeaving : ∀ rxd txon, c ≠ .leaveReset rxd txon) : ∃ f : State → State, ∀ s, exec c s = outOfReset f s := by
  cases c
  case resetNLow => exact absurd rfl notReset
  case powerUp => exact absurd rfl notPower
  case leaveReset rxd txon => exact absurd rfl (notLeaving rxd txon)
  all_goals exact ⟨_, fun _ => rfl⟩

/-- RESET_N low and power-up at once leave the part held by power-up (log 14). -/
theorem ResetHold.joined_eq (old : Option ResetHold) :
    ResetHold.joined old = if old = some .powerUp then .powerUp else .resetPin := by
  rcases old with _ | _ | _ <;> rfl

/-- The two commands that hold the part in reset differ only in the cause kept. -/
theorem enterReset_hold (why why' : ResetHold) (s : State) :
    enterReset why' s = { enterReset why s with control := { (enterReset why s).control with hold := some why' } } := rfl

/-! ### The idle step -/

/-- The free choice among several events takes one of them (log 2). -/
theorem chooseEvent_mem (s : State) {es : List Instr} (some_due : es ≠ []) :
    ∃ e ∈ es, chooseEvent s es = [e] := by
  match es with
  | [] => exact absurd rfl some_due
  | [e] => exact ⟨e, List.mem_singleton_self e, rfl⟩
  | e :: e' :: rest =>
    have place : Config.choice s.choices % (rest.length + 2) < (e :: e' :: rest).length :=
      Nat.mod_lt _ (Nat.succ_pos _)
    refine ⟨(e :: e' :: rest)[Config.choice s.choices % (rest.length + 2)], List.getElem_mem place, ?_⟩
    simp only [chooseEvent, List.getElem?_eq_getElem place, Option.toList_some]

/-- In reset the part idles without an effect (R2, R12). -/
theorem idle_held {s : State} (h : s.control.hold.isSome = true) : idle s = s := by
  rw [idle, if_pos h]

/-- Out of reset with nothing due a microsecond passes (R1). -/
theorem idle_nothing_due {s : State} (run : Running s) (h : eventsDue s = []) : idle s = tick s := by
  have hold : s.control.hold = none := run
  simp only [idle, hold, h, Option.isSome_none, Bool.false_eq_true, if_false]

/-- Out of reset an event that is due is chosen and queued. -/
theorem idle_event_due {s : State} (run : Running s) (h : eventsDue s ≠ []) :
    idle s = { s with pending := chooseEvent s (eventsDue s), choices := s.choices + 1 } := by
  have hold : s.control.hold = none := run
  obtain ⟨e, es, due⟩ := List.exists_cons_of_ne_nil h
  simp only [idle, hold, due, Option.isSome_none, Bool.false_eq_true, if_false]

/-- The dwell's observed time grows exactly while the receiver observes (R45). -/
theorem Dwells.observe_eq (d : Dwells) (x : Sense) :
    d.observe x.observing = { d with current := d.current.map (fun y =>
      if x.tuning = .settled ∧ x.blanking = .inactive then { y with observed := y.observed + 1 } else y) } := by
  unfold Dwells.observe Sense.observing
  by_cases h : x.tuning = .settled ∧ x.blanking = .inactive
  · simp only [h, decide_true, if_true, and_self]
  · simp only [h, decide_false, Bool.false_eq_true, if_false, Option.map_id']

end Sys2Proof.Machine

section
open Sys2Proof Sys2Proof.Machine

/-- Settles O4: such a command is taken only out of reset. -/
theorem nothingObservedInReset : Obligations.NothingObservedInReset := by
  intro c s held notReset notPower notLeaving
  obtain ⟨f, taken⟩ := exec_outOfReset notReset notPower notLeaving
  obtain ⟨why, hold⟩ := Option.isSome_iff_exists.1 held
  rw [taken, outOfReset_held f hold]

/-- Settles O5: both commands leave the cold state held in reset, with the cause that log 14 keeps. -/
theorem coldStartValues : Obligations.ColdStartValues := by
  intro s
  have pin : exec .resetNLow s = .next (enterReset (ResetHold.joined s.control.hold) s) := rfl
  have free : ∀ x ∈ (enterReset .powerUp s).tracking.entries, x.state = .free := fun x hx => by
    rw [List.eq_of_mem_replicate hx]
    rfl
  rw [pin, ResetHold.joined_eq, enterReset_hold .powerUp]
  exact ⟨enterReset .powerUp s, rfl, rfl, rfl, rfl, rfl, rfl, rfl, rfl, rfl, rfl, free, rfl, rfl, rfl, rfl, rfl, rfl, rfl,
    rfl, rfl, rfl, rfl, rfl⟩

/-- Settles O2: by whether the part is in reset, and whether an event is due. -/
theorem idleStepQueuesDueEventOrCounts : Obligations.IdleStepQueuesDueEventOrCounts := by
  intro s empty
  have idles : step s = .next (idle s) := by rw [step, empty]
  refine ⟨fun held => ?_, fun run due => ?_, fun run none_due => ?_⟩
  · rw [idles, idle_held held]
  · obtain ⟨e, mem, chosen⟩ := chooseEvent_mem s due
    exact ⟨e, mem, by rw [idles, idle_event_due run due, chosen]⟩
  · rw [idles, idle_nothing_due run none_due, ← Dwells.observe_eq]
    rfl
end

end

section
/-! PROOFS. The ends of blanking and of settling. -/

namespace Sys2Proof.Machine

/-! ### Where observation begins (R13, R17, R20, R29) -/

/-- Detection restarted after a change of the sense receiver (R17, R27). -/
theorem restartDetection_withSense (s : State) (x : Sense) :
    restartDetection (s.withSense x) = s.withSense { x with
      detector := .quiet Run.empty, fresh := true, restartPoint := s.airClock, restartCode := s.planner.lines } := rfl

/-- The end of blanking with the receiver SETTLED begins observation with a restart point (R17, R20, R29). -/
theorem endBlanking_settled {s : State} (h : s.sense.tuning = .settled) :
    endBlanking s = restartDetection (s.withSense
      { s.sense with blanking := .inactive, observedSince := some s.airClock }) := by
  simp only [endBlanking, State.withSense_sense, h, if_true]
  rfl

/-- The end of blanking with the receiver not SETTLED begins nothing (R29). -/
theorem endBlanking_unsettled {s : State} (h : s.sense.tuning ≠ .settled) :
    endBlanking s = s.withSense { s.sense with blanking := .inactive } := by
  simp only [endBlanking, State.withSense_sense, h, if_false]

/-- The end of settling is a restart point, and begins observation unless blanking is active (R13, R17, R29). -/
theorem endSettling_eq (s : State) :
    endSettling s = restartDetection (s.withSense { s.sense with
      tuning := .settled
      observedSince := if s.sense.blanking = .inactive then some s.airClock else s.sense.observedSince }) := by
  unfold endSettling
  by_cases h : s.sense.blanking = .inactive
  · simp only [State.withSense_sense, h, if_true]
    rfl
  · simp only [State.withSense_sense, h, if_false]

/-- TXON going low with a tail of 0 µs ends blanking at once (R20). -/
theorem startTail_zero {s : State} (high : s.sense.blanking = .active none) (tail : s.sense.settings.tail = 0) :
    startTail s = endBlanking s := by
  simp only [startTail, high, tail, if_true]

/-- TXON going low with another tail begins it (R20). -/
theorem startTail_begun {s : State} (high : s.sense.blanking = .active none) (tail : s.sense.settings.tail ≠ 0) :
    startTail s = s.withSense { s.sense with
      blanking := .active (some (Instant.plus s.airClock s.sense.settings.tail)) } := by
  simp only [startTail, high, tail, if_false]

/-- TXON going low when it is low already has no effect (log 25). -/
theorem startTail_low {s : State} (low : s.sense.blanking ≠ .active none) : startTail s = s := by
  unfold startTail
  split
  · rfl
  · rfl
  · exact absurd ‹_› low

end Sys2Proof.Machine

section
open Sys2Proof Sys2Proof.Machine

/-- Settles O39: the ends of blanking and of settling are restart points of one form. -/
theorem observationBegins : Obligations.ObservationBegins := by
  intro s restarted run restart clear hclear ended hended
  have blankingOver : endBlanking s = ended := by
    rw [hended, hclear, restart]
    by_cases h : s.sense.tuning = .settled
    · rw [endBlanking_settled h, restartDetection_withSense, if_pos h]
      rfl
    · rw [endBlanking_unsettled h, if_neg h]
      rfl
  have fall : exec .txonFall s = .next (startTail s) := outOfReset_running startTail run
  refine ⟨fun high => ⟨fun tail => ?_, fun tail => ?_⟩, fun low => ?_, fun e tail reached => ?_,
    fun e settling reached => ?_, fun o since old => ?_⟩
  · rw [fall, startTail_zero high tail, blankingOver]
  · rw [fall, startTail_begun high tail]
    rfl
  · rw [fall, startTail_low low]
  · rw [← blankingOver]
    exact effect_taken endBlanking run (by rw [tailOver, tail]; exact reached)
  · have taken : exec .settlingEnd s = .next (endSettling s) :=
      effect_taken endSettling run (by rw [settlingOver, settling]; exact reached)
    rw [taken, endSettling_eq, restartDetection_withSense, restart]
    rfl
  · exact effect_taken advanceObserved run (by rw [observedTooOld, since]; exact decide_eq_true old)

end

end

section
/-! PROOFS. SET_DETECT. -/

namespace Sys2Proof.Machine

/-! ### SET_DETECT (R31) -/

/-- A time code with bit 15 set refuses the request. -/
theorem requestSetDetect_badTime (threshold structured : Byte) {tail gap : Half} (s : State)
    (bad : tail.getLsbD 15 = true ∨ gap.getLsbD 15 = true) :
    requestSetDetect threshold structured tail gap s = refuse stBadArg s := by
  have : (timeCodeBad tail || timeCodeBad gap) = true := by rw [Bool.or_eq_true]; exact bad
  rw [requestSetDetect, if_pos this]

/-- A byte that is a yes or no (Table 10-6). -/
theorem boolOfByte_eq (b : Byte) : boolOfByte b = if b.toNat ≤ 1 then some (decide (b = 1)) else none := by
  revert b
  decide

/-- A structured detection byte other than 0 or 1 refuses the request. -/
theorem requestSetDetect_badByte (threshold : Byte) {structured : Byte} (tail gap : Half) (s : State)
    (bad : 1 < structured.toNat) : requestSetDetect threshold structured tail gap s = refuse stBadArg s := by
  unfold requestSetDetect
  rw [boolOfByte_eq, if_neg (Nat.not_le.2 bad)]
  exact ite_self _

/-- A byte of yes or no is its own field. -/
theorem yesNo_of_byte {b : Byte} (h : b.toNat ≤ 1) : yesNo (decide (b = 1)) = b := by
  revert b
  decide

/-- Otherwise the clamped settings become the settings pending, and the reply carries them. -/
theorem requestSetDetect_good (threshold : Byte) {structured : Byte} {tail gap : Half} (s : State)
    (htail : tail.getLsbD 15 = false) (hgap : gap.getLsbD 15 = false) (byte : structured.toNat ≤ 1) :
    requestSetDetect threshold structured tail gap s =
      (s.withSense { s.sense with
        pendingSettings := some (detectSettings threshold (decide (structured = 1)) tail gap) },
       okOrClamped (detectClamped threshold tail gap (detectSettings threshold (decide (structured = 1)) tail gap)) ::
        (detectSettings threshold (decide (structured = 1)) tail gap).fields) := by
  have good : (timeCodeBad tail || timeCodeBad gap) = false := by rw [Bool.or_eq_false_iff]; exact ⟨htail, hgap⟩
  rw [requestSetDetect, good, boolOfByte_eq, if_pos byte]
  rfl

/-- The clamped settings, as a maximum of a minimum. -/
theorem detectSettings_eq (threshold : Byte) (on : Bool) (tail gap : Half) :
    detectSettings threshold on tail gap =
      { threshold := max (-95) (min (-40) threshold.toInt), structuredOn := on
        tail := min 200 (timeCodeValue tail), mergeGap := min 2000 (timeCodeValue gap) } := by
  rw [detectSettings, clampThreshold, clamp_eq _ _ _ (by decide), clampNat_eq _ _ _ (by decide),
    clampNat_eq _ _ _ (by decide), Nat.zero_max, Nat.zero_max]

/-- The status of the reply: OK when no setting was clamped. -/
theorem okOrClamped_detect (threshold : Byte) (tail gap : Half) (d : DetectSettings) :
    okOrClamped (detectClamped threshold tail gap d) =
      if d.threshold = threshold.toInt ∧ d.tail = timeCodeValue tail ∧ d.mergeGap = timeCodeValue gap
      then 0x00 else 0x01 := by
  by_cases same : d.threshold = threshold.toInt ∧ d.tail = timeCodeValue tail ∧ d.mergeGap = timeCodeValue gap
  · obtain ⟨hth, htail, hgap⟩ := same
    simp [detectClamped, hth, htail, hgap, okOrClamped, stOk]
  · have changed : detectClamped threshold tail gap d = true := decide_eq_true (by tauto)
    rw [changed, if_neg same]
    rfl

end Sys2Proof.Machine

section
open Sys2Proof Sys2Proof.Machine

/-- Settles O19: by whether a field is refused. A clamped tail or gap is small enough to be its own time code. -/
theorem setDetectSetsThePendingSettings : Obligations.SetDetectSetsThePendingSettings := by
  intro t threshold structured tail gap s ready
  refine ⟨fun bad => ?_, fun htail hgap byte th b g hth hb hg => ?_⟩
  · rw [setDetect_served ready]
    have refused : requestSetDetect threshold structured tail gap s = refuse stBadArg s := by
      rcases bad with bad | bad | bad
      · exact requestSetDetect_badTime threshold structured s (.inl bad)
      · exact requestSetDetect_badTime threshold structured s (.inr bad)
      · exact requestSetDetect_badByte threshold tail gap s bad
    rw [refused]
    rfl
  · have smallTail : b ≤ 4095 := by omega
    have smallGap : g ≤ 4095 := by omega
    rw [setDetect_served ready, requestSetDetect_good threshold s htail hgap byte, okOrClamped_detect, detectSettings_eq,
      ← hth, ← hb, ← hg, DetectSettings.fields, timeCodeField, timeCodeField, timeCodeOf_small smallTail,
      timeCodeOf_small smallGap, yesNo_of_byte byte]
    rfl
end

end

section
/-! PROOFS. The code on the lines, and the template's anchor. -/

namespace Sys2Proof.Machine

/-! ### The lines and the template's anchor (R11, R105, R111, R116) -/

/-- The action of the first rule whose test is true (R111). -/
theorem baseAction_first {s : State} {x : Int} {rs : List Rule} {i : Nat} {r : Rule} (at_i : rs[i]? = some r)
    (holds : r.test s x = true) (before : ∀ j r', j < i → rs[j]? = some r' → r'.test s x = false) :
    baseAction s x rs = r.action := by
  induction rs generalizing i with
  | nil => simp at at_i
  | cons q rs ih =>
    cases i with
    | zero =>
      obtain rfl : q = r := by simpa using at_i
      rw [baseAction, if_pos holds]
    | succ i =>
      have fails : q.test s x = false := before 0 q (Nat.succ_pos i) rfl
      rw [baseAction, fails, if_neg Bool.false_ne_true]
      exact ih at_i fun j r' hj hr' => before (j + 1) r' (Nat.succ_lt_succ hj) hr'

/-- OPEN when no rule's test is true (R111). -/
theorem baseAction_none {s : State} {x : Int} {rs : List Rule} (fails : ∀ r ∈ rs, r.test s x = false) :
    baseAction s x rs = .openAir := by
  induction rs with
  | nil => rfl
  | cons q rs ih =>
    rw [baseAction, fails q List.mem_cons_self, if_neg Bool.false_ne_true]
    exact ih fun r hr => fails r (List.mem_cons_of_mem q hr)

/-- In ACTIVE and FALLBACK the lane of the open entry is shown (R116). -/
theorem formedCode_entry {s : State} {e : Reservation} (mode : s.control.mode = .active ∨ s.control.mode = .fallback)
    (found : s.planner.queue.find? (fun e => e.inProgress s.airClock) = some e) :
    formedCode s = e.lane.windowCode := by
  rcases mode with mode | mode <;> simp only [formedCode, mode, found]

/-- In ACTIVE and FALLBACK with no entry open the base code is shown (R116). -/
theorem formedCode_base {s : State} (mode : s.control.mode = .active ∨ s.control.mode = .fallback)
    (none_open : s.planner.queue.find? (fun e => e.inProgress s.airClock) = none) :
    formedCode s = (baseCode s 0).windowCode := by
  rcases mode with mode | mode <;> simp only [formedCode, mode, none_open]

/-- The template's anchor advanced by the whole periods of 300 s (R105). -/
theorem Template.advanced_eq (x : Template) :
    x.advanced = { x with anchor := x.anchor + BitVec.ofNat 36 (4800000000 / x.period * x.period) } := by
  rw [Template.advanced, Sixteenth.plus, ← Nat.cast_mul, BitVec.ofInt_natCast]

/-- The anchor is old when it lies at or before now and its age is 600 s or more (R105). -/
theorem templateOld_iff {s : State} {x : Template} (present : s.planner.template = some x) :
    templateOld s = true ↔ Instant.atOrBefore (BitVec.ofNat 32 (x.anchor.toNat / 16)) s.airClock = true ∧
      600000000 ≤ (s.airClock - BitVec.ofNat 32 (x.anchor.toNat / 16)).toNat := by
  simp only [templateOld, present, Bool.and_eq_true, decide_eq_true_eq]
  rfl

/-- The guard of a LOCKED OVEN entry steps at every whole 100,000 µs of its age but 0 (R100). -/
theorem guardSteps_of_hit {s : State} {id : Nat} {hit : Instant} (oven : (s.tracker id).kind = .oven)
    (locked : (s.tracker id).state = .locked) (last : (s.tracker id).lastHit = some hit)
    (later : 0 < (s.airClock - hit).toNat) (whole : 100000 ∣ (s.airClock - hit).toNat) : guardSteps s id = true := by
  have age : (s.tracker id).age s.airClock = (s.airClock - hit).toNat := by rw [Tracker.age, last]; rfl
  rw [guardSteps, age]
  exact decide_eq_true ⟨oven, locked, later, Nat.mod_eq_zero_of_dvd whole⟩

/-- An entry is in progress when it is OPEN and its stretch holds the present instant (R116, R123). -/
theorem Reservation.inProgress_eq (e : Reservation) (now : Instant) :
    e.inProgress now = decide (e.state = .opened ∧ (now - e.start).toNat < e.length) := by
  rw [Reservation.inProgress, Instant.within, Bool.decide_and]

/-- The modes that do not steer show OPEN in STANDBY and OBSERVE (R116). -/
theorem formedCode_idle {s : State} (mode : s.control.mode = .standby ∨ s.control.mode = .observe) :
    formedCode s = .openAir := by
  rcases mode with mode | mode <;> simp only [formedCode, mode]

end Sys2Proof.Machine

section
open Sys2Proof Sys2Proof.Machine

/-- Settles O49: the commands re-form the lines, and the code formed is by the mode, the queue and the rules. -/
theorem linesShowTheFormedCode : Obligations.LinesShowTheFormedCode := by
  refine ⟨fun s run shown hshown => ?_, fun s => ⟨?_, formedCode_idle, fun mode => ?_, fun mode now hnow => ?_⟩⟩
  · rw [hshown]
    refine ⟨outOfReset_running reform run, fun id hit _ oven locked last later whole => ?_,
      fun x present old hold => ⟨fun h => ?_, fun h => ?_⟩⟩
    · exact effect_taken reform run (guardSteps_of_hit oven locked last later whole)
    · have taken : exec .templateAnchorAdvance s = .next (s.withTemplate (s.planner.template.map Template.advanced)) :=
        effect_taken (fun s => s.withTemplate (s.planner.template.map Template.advanced)) run
          ((templateOld_iff present).2 (hold.1 h))
      rw [taken, present, Option.map_some, Template.advanced_eq]
      rfl
    · exact effect_skipped _ (Bool.eq_false_iff.2 fun o => h (hold.2 ((templateOld_iff present).1 o)))
  · rw [State.winLines]
    cases s.planner.lines <;> rfl
  · simp only [formedCode, mode]
  · have same : now = fun e => e.inProgress s.airClock := funext fun e => by rw [hnow, Reservation.inProgress_eq]
    rw [same]
    refine ⟨fun e found => ?_, fun none_open => ⟨fun i r at_i holds before => ?_, fun fails => ?_⟩⟩
    · rw [formedCode_entry mode found]
      cases e.lane <;> rfl
    · rw [formedCode_base mode none_open, baseCode, baseAction_first at_i holds before]
      cases r.action <;> rfl
    · rw [formedCode_base mode none_open, baseCode, baseAction_none fails]
      rfl
end

end

section
/-! PROOFS. The end of a frame on TXD, and restarts. -/

namespace Sys2Proof.Machine

/-! ### The end of a frame on TXD (R174, R189) -/

/-- The end of a frame sent is due when the instant of its last stop bit has been reached. -/
theorem frameTransmitted_taken {s : State} {x : Sending} (run : Running s) (sent : s.link.sending = some x)
    (ended : Instant.atOrBefore x.endsAt s.airClock = true) : exec .frameTransmitted s = .next (frameSent s) :=
  effect_taken frameSent run (by rw [sendingOver, sent]; exact ended)

/-- The reply to a RESTART that was taken has status OK (R174). -/
theorem isRestartReply_iff (f : Frame) : isRestartReply f = true ↔ f.kind = 0x86#8 ∧ f.payload.head? = some 0x00#8 := by
  rw [isRestartReply, Bool.and_eq_true, decide_eq_true_eq, decide_eq_true_eq, stOk]

/-- The end of the RESTART reply brings the restart that the mark records (R174). -/
theorem frameSent_marked {s : State} {x : Sending} {kind : RestartKind} (sent : s.link.sending = some x)
    (reply : isRestartReply x.frame = true) (mark : s.control.mark = some kind) :
    frameSent s = pump (markedRestart kind s) := by
  simp only [frameSent, restartAfter, sent, reply, mark, if_true]

/-- A frame for which no restart waits frees the transmitter for the next one, and the freed place lets requests be taken
(R187, R189). -/
theorem frameSent_unmarked {s : State} {x : Sending} (sent : s.link.sending = some x)
    (none_waits : s.control.mark = none ∨ isRestartReply x.frame = false) :
    frameSent s = serveInbox (pump (freeTransmitter s)) := by
  have after : restartAfter s = none := by
    simp only [restartAfter, sent]
    rcases none_waits with mark | other
    · rw [mark, ite_self]
    · rw [other, if_neg Bool.false_ne_true]
  simp only [frameSent, after]

/-! ### Restarts (R174, R176, R178) -/

/-- A break due, out of reset, brings its restart. -/
theorem rxdBreak_taken {s : State} {w : LowLevel} (run : Running s) (low : s.link.rxdLow = some w)
    (fresh : w.restarted = false) (long : 50000 ≤ (s.airClock - w.fall).toNat) :
    exec .rxdBreak s = .next (pump (breakRestart s)) :=
  effect_taken (fun s => pump (breakRestart s)) run (by
    simp only [breakDue, low, fresh, Bool.not_false, Bool.true_and, decide_eq_true_eq]
    exact long)

/-- Without the mark COLD a break brings a warm restart (R176). -/
theorem breakRestart_warm {s : State} (mark : s.control.mark ≠ some .cold) :
    breakRestart s = warmRestart .lineBreak (markBreakTaken s) := by
  unfold breakRestart
  split
  · exact absurd ‹_› mark
  · rfl
  · rfl

/-- With the mark COLD a break brings a cold start (R176). -/
theorem breakRestart_cold {s : State} (mark : s.control.mark = some .cold) :
    breakRestart s = coldRestart .restartCold (markBreakTaken s) := by
  simp only [breakRestart, mark]

/-- What a warm restart keeps and sets does not depend on the mark of the break. -/
theorem WarmRestarted.of_markBreakTaken {s t : State} (h : WarmRestarted (markBreakTaken s) t) : WarmRestarted s t := h

/-- A warm restart leaves the reports and the transmitter to its MODE report, which goes out when MODE is enabled and is
not queued otherwise; a low level goes on being measured (R179, R190, R195). -/
theorem warmRestart_link (c : ModeCause) (s : State) :
    (pump (warmRestart c s)).link.rxdLow = s.link.rxdLow ∧ (pump (warmRestart c s)).link.reports = [] ∧
    (s.link.enables.getLsbD 0 = true → (pump (warmRestart c s)).link.sending = some
      { frame := { kind := 0xC0, ticket := 0, payload := [0, s.control.mode.code, 0, c.code] ++ le32 s.airClock }
        endsAt := s.airClock + 130 }) ∧
    (s.link.enables.getLsbD 0 = false → (pump (warmRestart c s)).link.sending = none) := by
  cases enabled : s.link.enables.getLsbD 0
  · rw [warmRestart_silent c enabled]
    exact ⟨rfl, rfl, fun h => absurd h Bool.false_ne_true, fun _ => rfl⟩
  · rw [warmRestart_reported c enabled]
    exact ⟨rfl, rfl, fun _ => rfl, fun h => absurd h.symm Bool.false_ne_true⟩

end Sys2Proof.Machine

section
open Sys2Proof Sys2Proof.Machine

/-- Settles O7: by the restart mark. -/
theorem breakRestartsWarm : Obligations.BreakRestartsWarm := by
  intro s w run low fresh long
  have taken := rxdBreak_taken run low fresh long
  have marked : (markBreakTaken s).link.rxdLow = some { w with restarted := true } := by
    simp only [markBreakTaken, State.withLink_link, low, Option.map_some]
  refine ⟨fun mark => ?_, fun mark => ?_⟩
  · rw [breakRestart_warm mark] at taken
    obtain ⟨measured, reports, reported, silent⟩ := warmRestart_link .lineBreak (markBreakTaken s)
    exact ⟨_, taken, (warmRestart_restarted .lineBreak (markBreakTaken s)).of_markBreakTaken, measured.trans marked,
      fun on => ⟨reported on, reports⟩, fun off => ⟨silent off, reports⟩⟩
  · rw [taken, breakRestart_cold mark, coldRestart_reported, Link.coldRunning, marked]
    rfl

/-- Settles O8: by the restart mark. -/
theorem restartWhenItsReplyHasLeft : Obligations.RestartWhenItsReplyHasLeft := by
  intro s x fields run sent kind payload ended
  have reply : isRestartReply x.frame = true := (isRestartReply_iff x.frame).2 ⟨kind, by rw [payload]; rfl⟩
  have taken := frameTransmitted_taken run sent ended
  refine ⟨fun mark => ?_, fun mark => ?_⟩
  · rw [frameSent_marked sent reply mark] at taken
    obtain ⟨measured, reports, reported, silent⟩ := warmRestart_link .restartWarm s
    exact ⟨_, taken, warmRestart_restarted .restartWarm s, measured, reports, reported, silent⟩
  · rw [taken, frameSent_marked sent reply mark, markedRestart, coldRestart_reported]
    rfl
end

end

section
/-! PROOFS. What the block that owns a request cannot change. -/

namespace Sys2Proof.Machine

/-! ### What taking a request leaves as it was (R187) -/

/-- A state that the block which owns a request can lead to: the air clock, the queue of commands, what holds the part in
reset, the frames that wait in the inbox and how many replies wait are not a block's to change. -/
structure RequestStep (s t : State) : Prop where
  airClock : t.airClock = s.airClock
  choices : t.choices = s.choices
  pending : t.pending = s.pending
  reset : t.control.hold = s.control.hold
  inbox : t.link.inbox = s.link.inbox
  replyCount : t.link.replies.length = s.link.replies.length

theorem RequestStep.refl (s : State) : RequestStep s s := by constructor <;> rfl

theorem RequestStep.trans {s t u : State} (h : RequestStep s t) (h' : RequestStep t u) : RequestStep s u where
  airClock := h'.airClock.trans h.airClock
  choices := h'.choices.trans h.choices
  pending := h'.pending.trans h.pending
  reset := h'.reset.trans h.reset
  inbox := h'.inbox.trans h.inbox
  replyCount := h'.replyCount.trans h.replyCount

/-- What an event of the air can bring, a request's block can. -/
theorem AirStep.requestStep {s t : State} (h : AirStep s t) : RequestStep s t where
  airClock := h.airClock
  choices := h.choices
  pending := h.pending
  reset := h.reset
  inbox := h.link.inbox
  replyCount := h.link.replies.length_eq.symm

theorem reform_requestStep (s : State) : RequestStep s (reform s) := (reform_air s).requestStep

theorem planChange_requestStep (s : State) : RequestStep s (planChange s) := (planChange_plannerStep s).air.requestStep

/-! ### Each request -/

/-- A check that refuses the request leaves the state as it is (R188). -/
theorem refuse_or_requestStep {b : Prop} [Decidable b] {status : Byte} {s : State} {a : Answer} (h : RequestStep s a.1) :
    RequestStep s (if b then refuse status s else a).1 := by
  split
  · exact RequestStep.refl s
  · exact h

theorem requestClearFlags_requestStep (flags count : Byte) (s : State) :
    RequestStep s (requestClearFlags flags count s).1 := by
  unfold requestClearFlags
  split
  · exact RequestStep.refl s
  · exact { RequestStep.refl s with }

theorem requestRestart_requestStep (kind : Byte) (s : State) : RequestStep s (requestRestart kind s).1 := by
  unfold requestRestart
  split
  · exact { RequestStep.refl s with }
  · split
    · exact { RequestStep.refl s with }
    · exact RequestStep.refl s

theorem enterRunning_requestStep (m : Mode) (s : State) : RequestStep s (enterRunning m s).1 :=
  (((setMode_air m s).trans (beginSequence_air _)).trans (reform_air _)).requestStep

theorem startChecked_requestStep (m : Mode) (s : State) : RequestStep s (startChecked m s).1 :=
  refuse_or_requestStep (refuse_or_requestStep (enterRunning_requestStep m s))

theorem requestStart_requestStep (mode : Byte) (s : State) : RequestStep s (requestStart mode s).1 := by
  unfold requestStart
  split
  · exact startChecked_requestStep _ s
  · split
    · exact startChecked_requestStep _ s
    · exact RequestStep.refl s

theorem abandonDwell_air (s : State) : AirStep s (abandonDwell s) := { AirStep.refl s with }

theorem senseIdle_air (s : State) : AirStep s (senseIdle s) := withSense_air s _

/-- STOP's return to STANDBY changes what an event of the air can (R168). -/
theorem stopRunning_air (s : State) : AirStep s (stopRunning s) :=
  ((((((setMode_air .standby s).trans (senseIdle_air _)).trans (abandonDwell_air _)).trans (abortSurvey_air _)).trans
    (dropAllPending_trackingStep _).air).trans (emptyBookings_plannerStep _).air).trans (reform_air _)

theorem requestStop_requestStep (s : State) : RequestStep s (requestStop s).1 :=
  refuse_or_requestStep (stopRunning_air s).requestStep

theorem changeByRequest_requestStep (m : Mode) (s : State) : RequestStep s (changeByRequest m s).1 :=
  ((changeMode_air m s).trans (reform_air _)).requestStep.trans { RequestStep.refl _ with }

theorem toFallback_requestStep (s : State) : RequestStep s (toFallback s).1 :=
  refuse_or_requestStep (refuse_or_requestStep (changeByRequest_requestStep _ s))

theorem requestSetMode_requestStep (mode : Byte) (s : State) : RequestStep s (requestSetMode mode s).1 := by
  unfold requestSetMode
  split
  · exact RequestStep.refl s
  · refine refuse_or_requestStep ?_
    split
    · exact { RequestStep.refl s with }
    · split
      · exact toFallback_requestStep s
      · exact changeByRequest_requestStep _ s

theorem requestResume_requestStep (s : State) : RequestStep s (requestResume s).1 := by
  unfold requestResume
  split
  · exact changeByRequest_requestStep _ s
  · exact RequestStep.refl s

theorem requestSetDetect_requestStep (th st : Byte) (tail gap : Half) (s : State) :
    RequestStep s (requestSetDetect th st tail gap s).1 := by
  refine refuse_or_requestStep ?_
  split
  · exact RequestStep.refl s
  · exact { RequestStep.refl s with }

theorem requestSetScan_requestStep (cs : List Byte) (i : Byte) (o f m : Half) (s : State) :
    RequestStep s (requestSetScan cs i o f m s).1 := by
  refine refuse_or_requestStep ?_
  split
  · exact RequestStep.refl s
  · exact { RequestStep.refl s with }

theorem serveSetScan_requestStep (count : Byte) (rest : List Byte) (s : State) :
    RequestStep s (serveSetScan count rest s).1 := by
  unfold serveSetScan
  split
  · split
    · exact requestSetScan_requestStep _ _ _ _ _ s
    · exact RequestStep.refl s
  · exact RequestStep.refl s

theorem takeChannel_requestStep (c : Nat) (s : State) : RequestStep s (takeChannel c s) := { RequestStep.refl s with }

theorem changeChannel_requestStep (c : Nat) (s : State) : RequestStep s (changeChannel c s) :=
  (takeChannel_requestStep c s).trans (changeChannel_air c s).requestStep

theorem requestSetChannel_requestStep (c : Byte) (s : State) : RequestStep s (requestSetChannel c s).1 := by
  refine refuse_or_requestStep ?_
  split
  · exact RequestStep.refl s
  · exact (changeChannel_requestStep _ s).trans (reform_requestStep _)

theorem surveyTaken_requestStep (c d : Nat) (s : State) : RequestStep s (surveyTaken c d s) := { RequestStep.refl s with }

theorem requestSurvey_requestStep (c : Byte) (d : Half) (s : State) : RequestStep s (requestSurvey c d s).1 :=
  refuse_or_requestStep (refuse_or_requestStep (refuse_or_requestStep (surveyTaken_requestStep _ _ s)))

theorem requestDeclareBeacon_requestStep (c : Byte) (i a : Half) (s : State) :
    RequestStep s (requestDeclareBeacon c i a s).1 := by
  refine refuse_or_requestStep (refuse_or_requestStep ?_)
  split
  · exact RequestStep.refl s
  · exact (((allocate_trackingStep ‹_›).trans (setAndReport _ _ _ _ _ _ _ _)).air.requestStep.trans
      (planChange_requestStep _)).trans (reform_requestStep _)

theorem requestForget_requestStep (id : Byte) (s : State) : RequestStep s (requestForget id s).1 :=
  refuse_or_requestStep (refuse_or_requestStep
    (((freeTracker_trackingStep _ _ s).air.trans (planChangeIf_plannerStep _ _).air).trans (reform_air _)).requestStep)

theorem requestReadTracker_requestStep (id : Byte) (s : State) : RequestStep s (requestReadTracker id s).1 :=
  refuse_or_requestStep (refuse_or_requestStep (RequestStep.refl s))

theorem withTracking_requestStep (s : State) (t : Tracking) : RequestStep s (s.withTracking t) :=
  { RequestStep.refl s with }

theorem applyTracking_requestStep (t : TrackSettings) (s : State) : RequestStep s (applyTracking t s) :=
  ((withTracking_requestStep s _).trans (applyMissLimit_trackingStep _).air.requestStep).trans (planChange_requestStep _)

theorem requestSetTracking_requestStep (g b : Half) (r : Byte) (c : Half) (l m : Byte) (s : State) :
    RequestStep s (requestSetTracking g b r c l m s).1 :=
  refuse_or_requestStep ((applyTracking_requestStep _ s).trans (reform_requestStep _))

theorem withPlanner_requestStep (s : State) (p : Planner) : RequestStep s (s.withPlanner p) :=
  { RequestStep.refl s with }

theorem requestSetRules_requestStep (rs : List RuleBytes) (th : Half) (s : State) :
    RequestStep s (requestSetRules rs th s).1 := by
  refine refuse_or_requestStep ?_
  split
  · exact RequestStep.refl s
  · exact ((withPlanner_requestStep s _).trans (planChange_requestStep (replaceRules _ _ s))).trans (reform_requestStep _)

theorem serveSetRules_requestStep (count : Byte) (rest : List Byte) (s : State) :
    RequestStep s (serveSetRules count rest s).1 := by
  unfold serveSetRules
  split
  · split
    · exact requestSetRules_requestStep _ _ s
    · exact RequestStep.refl s
  · exact RequestStep.refl s

theorem requestArmTemplate_requestStep (m : Option Half) (s : State) : RequestStep s (requestArmTemplate m s).1 := by
  refine refuse_or_requestStep (refuse_or_requestStep ?_)
  split
  · exact RequestStep.refl s
  · exact (withPlanner_requestStep s _).trans (planChange_requestStep (s.withTemplate _))

theorem requestDropTemplate_requestStep (s : State) : RequestStep s (requestDropTemplate s).1 :=
  refuse_or_requestStep (refuse_or_requestStep (withPlanner_requestStep s _))

theorem bookSearch_requestStep (l : Lane) (tag : Byte) (len e d : Nat) (s : State) :
    RequestStep s (bookSearch l tag len e d s).1 := by
  unfold bookSearch
  simp only
  split
  · exact (placeEntry_plannerStep _ s).air.requestStep
  · split
    · exact RequestStep.refl s
    · exact RequestStep.refl s

theorem requestBook_requestStep (l tag : Byte) (len e d : Half) (s : State) :
    RequestStep s (requestBook l tag len e d s).1 := by
  unfold requestBook
  split
  · exact RequestStep.refl s
  · exact refuse_or_requestStep (refuse_or_requestStep (refuse_or_requestStep (refuse_or_requestStep
      (bookSearch_requestStep _ _ _ _ _ s))))

theorem requestCancel_requestStep (l tag : Byte) (s : State) : RequestStep s (requestCancel l tag s).1 := by
  unfold requestCancel
  split
  · exact RequestStep.refl s
  · refine refuse_or_requestStep ?_
    split
    · exact RequestStep.refl s
    · exact (withPlanner_requestStep s _).trans (reform_requestStep (dropOneShot _ _ s))

theorem seriesSearch_requestStep (id : Nat) (l : Lane) (tag : Byte) (p len j : Nat) (s : State) :
    RequestStep s (seriesSearch id l tag p len j s).1 := by
  unfold seriesSearch
  split
  · exact { RequestStep.refl s with }
  · exact RequestStep.refl s

theorem requestSeriesOpen_requestStep (l tag : Byte) (p len j : Half) (s : State) :
    RequestStep s (requestSeriesOpen l tag p len j s).1 := by
  unfold requestSeriesOpen
  split
  · exact RequestStep.refl s
  · refine refuse_or_requestStep (refuse_or_requestStep (refuse_or_requestStep (refuse_or_requestStep
      (refuse_or_requestStep ?_))))
    split
    · exact RequestStep.refl s
    · exact seriesSearch_requestStep _ _ _ _ _ _ s

theorem requestSeriesClose_requestStep (l tag : Byte) (s : State) : RequestStep s (requestSeriesClose l tag s).1 := by
  unfold requestSeriesClose
  split
  · exact RequestStep.refl s
  · refine refuse_or_requestStep ?_
    split
    · exact RequestStep.refl s
    · exact (withPlanner_requestStep s _).trans (reform_requestStep (dropSeries _ s))

theorem requestSetLanes_requestStep (a b : Byte) (s : State) : RequestStep s (requestSetLanes a b s).1 :=
  refuse_or_requestStep (withPlanner_requestStep s _)

theorem requestReadBookings_requestStep (part : Byte) (s : State) : RequestStep s (requestReadBookings part s).1 := by
  unfold requestReadBookings
  split
  · exact RequestStep.refl s
  · split
    · exact RequestStep.refl s
    · exact RequestStep.refl s

theorem requestSetEscalation_requestStep (th p : Byte) (s : State) : RequestStep s (requestSetEscalation th p s).1 := by
  unfold requestSetEscalation
  split
  · exact RequestStep.refl s
  · exact { RequestStep.refl s with }

/-- Whatever the kind and the payload, the block that owns a request leaves these things as they were; a payload of a
length that the kind does not allow reaches no block (R187). -/
theorem serveKind_requestStep (k : RequestKind) (payload : List Byte) (s : State) :
    RequestStep s (serveKind k payload s).1 :=
  match k, payload with
  | .ident, [] | .ident, _ :: _ => RequestStep.refl s
  | .status, [] | .status, _ :: _ => RequestStep.refl s
  | .time, [] | .time, _ :: _ => RequestStep.refl s
  | .readChannels, [] | .readChannels, _ :: _ => RequestStep.refl s
  | .ranking, [] | .ranking, _ :: _ => RequestStep.refl s
  | .readRules, [] | .readRules, _ :: _ => RequestStep.refl s
  | .readFault, [] | .readFault, _ :: _ => RequestStep.refl s
  | .setReports, [_] => { RequestStep.refl s with }
  | .setReports, [] | .setReports, _ :: _ :: _ => RequestStep.refl s
  | .clearFlags, [f, c] => requestClearFlags_requestStep f c s
  | .clearFlags, [] | .clearFlags, [_] | .clearFlags, _ :: _ :: _ :: _ => RequestStep.refl s
  | .restart, [k] => requestRestart_requestStep k s
  | .restart, [] | .restart, _ :: _ :: _ => RequestStep.refl s
  | .start, [m] => requestStart_requestStep m s
  | .start, [] | .start, _ :: _ :: _ => RequestStep.refl s
  | .stop, [] => requestStop_requestStep s
  | .stop, _ :: _ => RequestStep.refl s
  | .setMode, [m] => requestSetMode_requestStep m s
  | .setMode, [] | .setMode, _ :: _ :: _ => RequestStep.refl s
  | .resume, [] => requestResume_requestStep s
  | .resume, _ :: _ => RequestStep.refl s
  | .setDetect, [th, st, _, _, _, _] => requestSetDetect_requestStep th st _ _ s
  | .setDetect, [] | .setDetect, [_] | .setDetect, [_, _] | .setDetect, [_, _, _] | .setDetect, [_, _, _, _]
    | .setDetect, [_, _, _, _, _] | .setDetect, _ :: _ :: _ :: _ :: _ :: _ :: _ :: _ => RequestStep.refl s
  | .setScan, count :: rest => serveSetScan_requestStep count rest s
  | .setScan, [] => RequestStep.refl s
  | .setChannel, [c] => requestSetChannel_requestStep c s
  | .setChannel, [] | .setChannel, _ :: _ :: _ => RequestStep.refl s
  | .survey, [c, _, _] => requestSurvey_requestStep c _ s
  | .survey, [] | .survey, [_] | .survey, [_, _] | .survey, _ :: _ :: _ :: _ :: _ => RequestStep.refl s
  | .declareBeacon, [c, _, _, _, _] => requestDeclareBeacon_requestStep c _ _ s
  | .declareBeacon, [] | .declareBeacon, [_] | .declareBeacon, [_, _] | .declareBeacon, [_, _, _]
    | .declareBeacon, [_, _, _, _] | .declareBeacon, _ :: _ :: _ :: _ :: _ :: _ :: _ => RequestStep.refl s
  | .forget, [id] => requestForget_requestStep id s
  | .forget, [] | .forget, _ :: _ :: _ => RequestStep.refl s
  | .readTracker, [id] => requestReadTracker_requestStep id s
  | .readTracker, [] | .readTracker, _ :: _ :: _ => RequestStep.refl s
  | .setTracking, [_, _, _, _, r, _, _, l, m] => requestSetTracking_requestStep _ _ r _ l m s
  | .setTracking, [] | .setTracking, [_] | .setTracking, [_, _] | .setTracking, [_, _, _] | .setTracking, [_, _, _, _]
    | .setTracking, [_, _, _, _, _] | .setTracking, [_, _, _, _, _, _] | .setTracking, [_, _, _, _, _, _, _]
    | .setTracking, [_, _, _, _, _, _, _, _]
    | .setTracking, _ :: _ :: _ :: _ :: _ :: _ :: _ :: _ :: _ :: _ :: _ => RequestStep.refl s
  | .setRules, count :: rest => serveSetRules_requestStep count rest s
  | .setRules, [] => RequestStep.refl s
  | .armTemplate, [] => requestArmTemplate_requestStep none s
  | .armTemplate, [_, _] => requestArmTemplate_requestStep (some _) s
  | .armTemplate, [_] | .armTemplate, _ :: _ :: _ :: _ => RequestStep.refl s
  | .dropTemplate, [] => requestDropTemplate_requestStep s
  | .dropTemplate, _ :: _ => RequestStep.refl s
  | .book, [l, t, _, _, _, _, _, _] => requestBook_requestStep l t _ _ _ s
  | .book, [] | .book, [_] | .book, [_, _] | .book, [_, _, _] | .book, [_, _, _, _] | .book, [_, _, _, _, _]
    | .book, [_, _, _, _, _, _] | .book, [_, _, _, _, _, _, _]
    | .book, _ :: _ :: _ :: _ :: _ :: _ :: _ :: _ :: _ :: _ => RequestStep.refl s
  | .cancel, [l, t] => requestCancel_requestStep l t s
  | .cancel, [] | .cancel, [_] | .cancel, _ :: _ :: _ :: _ => RequestStep.refl s
  | .seriesOpen, [l, t, _, _, _, _, _, _] => requestSeriesOpen_requestStep l t _ _ _ s
  | .seriesOpen, [] | .seriesOpen, [_] | .seriesOpen, [_, _] | .seriesOpen, [_, _, _] | .seriesOpen, [_, _, _, _]
    | .seriesOpen, [_, _, _, _, _] | .seriesOpen, [_, _, _, _, _, _] | .seriesOpen, [_, _, _, _, _, _, _]
    | .seriesOpen, _ :: _ :: _ :: _ :: _ :: _ :: _ :: _ :: _ :: _ => RequestStep.refl s
  | .seriesClose, [l, t] => requestSeriesClose_requestStep l t s
  | .seriesClose, [] | .seriesClose, [_] | .seriesClose, _ :: _ :: _ :: _ => RequestStep.refl s
  | .setLanes, [a, b] => requestSetLanes_requestStep a b s
  | .setLanes, [] | .setLanes, [_] | .setLanes, _ :: _ :: _ :: _ => RequestStep.refl s
  | .readBookings, [p] => requestReadBookings_requestStep p s
  | .readBookings, [] | .readBookings, _ :: _ :: _ => RequestStep.refl s
  | .setEscalation, [th, p] => requestSetEscalation_requestStep th p s
  | .setEscalation, [] | .setEscalation, [_] | .setEscalation, _ :: _ :: _ :: _ => RequestStep.refl s
  | .clearFault, [] => { RequestStep.refl s with }
  | .clearFault, _ :: _ => RequestStep.refl s

theorem serve_requestStep (f : Frame) (s : State) : RequestStep s (serve f s).1 := by
  unfold serve
  split
  · exact serveKind_requestStep _ _ s
  · exact RequestStep.refl s

end Sys2Proof.Machine

end

section
/-! PROOFS. Requests taken from the inbox, and the level of TXD during a frame. -/

namespace Sys2Proof.Machine

/-! ### Requests taken from the inbox (R187) -/

@[simp] theorem pump_inbox (s : State) : (pump s).link.inbox = s.link.inbox := by rw [pump_eq]; rfl

/-- Taking a frame leaves the frames behind it in the inbox. -/
theorem takeFrame_inbox (f : Frame) (s : State) : (takeFrame f s).link.inbox = s.link.inbox := by
  rw [takeFrame, pump_inbox]
  exact (serve_requestStep f s).inbox

/-- An empty inbox has nothing to serve. -/
theorem serveInbox_empty {s : State} (h : s.link.inbox = []) : serveInbox s = s := by
  rw [serveInbox, h]
  rfl

/-- While a restart waits, or 3 replies or more, requests stay in the inbox (R175, R187). -/
theorem serveInbox_waits {s : State} (h : s.control.mark ≠ none ∨ 3 ≤ s.link.replies.length) : serveInbox s = s := by
  have shut : mayTake s = false := by
    rw [mayTake, Bool.and_eq_false_iff]
    rcases h with mark | replies
    · exact .inl (Option.isNone_eq_false_iff.2 (Option.isSome_iff_ne_none.2 mark))
    · exact .inr (decide_eq_false (by omega))
  unfold serveInbox
  cases s.link.inbox.length with
  | zero => rfl
  | succ n =>
    unfold takeFrames
    split
    · rfl
    · rw [shut, if_neg Bool.false_ne_true]

/-- Otherwise the oldest request is taken, and then the rest of the inbox is served (R187). -/
theorem serveInbox_takes {s : State} {f : Frame} {rest : List Frame} (mark : s.control.mark = none)
    (replies : s.link.replies.length ≤ 2) (inbox : s.link.inbox = f :: rest) :
    serveInbox s = serveInbox (takeFrame f (s.withLink { s.link with inbox := rest })) := by
  have may : mayTake s = true := by rw [mayTake, mark, decide_eq_true replies]; rfl
  have behind : (takeFrame f (s.withLink { s.link with inbox := rest })).link.inbox = rest := takeFrame_inbox f _
  rw [serveInbox, serveInbox, behind, inbox, List.length_cons, takeFrames, inbox]
  simp only [may, if_true]

/-! ### The level of TXD during a frame (R181 to R183) -/

/-- `m` microseconds after a frame began TXD shows the level at place `m` of its levels, and is high beyond them. -/
theorem txd_level {s : State} {f : Frame} {began : Instant} (run : Running s)
    (sending : s.link.sending = some { frame := f, endsAt := Instant.plus began f.lineTime }) {m : Nat}
    (now : s.airClock = Instant.plus began m) (bound : m < 2 ^ 32) : s.txd = f.levels[m]?.getD true := by
  have start : Instant.minus (Instant.plus began f.lineTime) f.lineTime = began := BitVec.add_sub_cancel _ _
  have age : Instant.elapsed began s.airClock = m := by
    rw [now, Instant.elapsed, Instant.plus, BitVec.add_comm, BitVec.add_sub_cancel, BitVec.toNat_ofNat,
      Nat.mod_eq_of_lt bound]
  rw [txd_sending run sending, start, age, List.getD_eq_getElem?_getD]

/-- Level `j` of byte `i` of a frame, by the byte's own levels. -/
theorem Frame.levels_getElem? {f : Frame} {i : Nat} {b : Byte} (byte : f.bytes[i]? = some b) {j : Nat} (hj : j < 10) :
    f.levels[10 * i + j]? = (characterLevels b)[j]? := by
  rw [Frame.levels, flatMap_characterLevels_getElem? _ _ _ hj, byte, Option.bind_some]

/-- The data bits stand between the start bit and the stop bit, the least significant first (R181). -/
theorem characterLevels_data (b : Byte) {k : Nat} (hk : k < 8) : (characterLevels b)[1 + k]? = some (b.getLsbD k) := by
  interval_cases k <;> rfl

/-- TXD during byte `i` of a frame: the start bit, the eight data bits and the stop bit, 1 µs each (R181). -/
theorem txd_byte {s : State} {f : Frame} {began : Instant} (run : Running s) (fits : f.payload.length ≤ 240)
    (sending : s.link.sending = some { frame := f, endsAt := Instant.plus began f.lineTime }) {i : Nat} {b : Byte}
    (byte : f.bytes[i]? = some b) {j : Nat} (hj : j < 10) (now : s.airClock = Instant.plus began (10 * i + j)) :
    s.txd = (characterLevels b)[j]?.getD true := by
  have place : i < f.bytes.length := (List.getElem?_eq_some_iff.1 byte).1
  rw [Frame.bytes_length] at place
  rw [txd_level run sending now (by omega), Frame.levels_getElem? byte hj]

/-- At the instant at which a frame has left TXD is high (R181). -/
theorem txd_ended {s : State} {f : Frame} {began : Instant} (run : Running s) (fits : f.payload.length ≤ 240)
    (sending : s.link.sending = some { frame := f, endsAt := Instant.plus began f.lineTime })
    (now : s.airClock = Instant.plus began f.lineTime) : s.txd = true := by
  have beyond : f.levels[f.lineTime]? = none := List.getElem?_eq_none (Nat.le_of_eq f.levels_length)
  rw [txd_level run sending now (by rw [Frame.lineTime]; omega), beyond]
  rfl

end Sys2Proof.Machine

section
open Sys2Proof Sys2Proof.Machine

/-- Settles O37: by what waits for the freed transmitter, by the conditions for taking the oldest request, and by the place
of the present instant among the levels of the frame. -/
theorem frameTransmittedFreesThePlace : Obligations.FrameTransmittedFreesThePlace := by
  refine ⟨fun s x run none_waits sent ended => ?_, fun s => serveInbox_empty, fun s => serveInbox_waits,
    fun s f rest k mark replies inbox kind => ?_, fun s f began run fits sending covered hcovered => ?_,
    fun s => txd_free, fun s held => txd_held (Option.isSome_iff_ne_none.2 held)⟩
  · have taken := frameTransmitted_taken run sent ended
    rw [frameSent_unmarked sent (none_waits.imp_right fun other => by
      rw [← Bool.not_eq_true, isRestartReply_iff]; exact other)] at taken
    have free : (freeTransmitter s).link.sending = none := rfl
    refine ⟨fun f rest replies => ?_, fun f rest replies reports => ?_, fun replies reports => ?_⟩
    · rw [taken, pump_reply free replies]
      rfl
    · rw [taken, pump_report free replies reports]
      rfl
    · rw [taken, pump_idle free replies reports]
      rfl
  · have frame : f = requestFrame k f.ticket f.payload := by rw [requestFrame, ← kind]
    rw [serveInbox_takes mark replies inbox, frame, takeFrame_request]
    rfl
  · have bytes : f.bytes = 0xA5#8 :: covered ++ [crc8 covered] := by rw [hcovered]; rfl
    refine ⟨fun i b byte => ⟨fun now => ?_, fun k hk now => ?_, fun now => ?_⟩, fun now => ?_⟩
    · rw [txd_byte run fits sending (bytes ▸ byte) (j := 0) (by decide) now]
      rfl
    · rw [txd_byte run fits sending (bytes ▸ byte) (j := 1 + k) (by omega) (by rw [now, Nat.add_assoc]; rfl),
        characterLevels_data b hk]
      rfl
    · rw [txd_byte run fits sending (bytes ▸ byte) (j := 9) (by decide) now]
      rfl
    · exact txd_ended run fits sending now
end

end

section
/-! PROOFS. The air clock and the queue of commands under every command. -/

namespace Sys2Proof.Machine

/-! ### What a command leaves of the clock and the queue of commands (R1, R2) -/

/-- The air clock, the queue of commands and the count of free choices are left as they are. -/
structure ClockKept (s t : State) : Prop where
  pending : t.pending = s.pending
  choices : t.choices = s.choices
  airClock : t.airClock = s.airClock

/-- The same, but that the air clock may have become 0 (R2). -/
structure ClockKeptOrCold (s t : State) : Prop where
  pending : t.pending = s.pending
  choices : t.choices = s.choices
  airClock : t.airClock = s.airClock ∨ t.airClock = 0

theorem ClockKept.refl (s : State) : ClockKept s s := ⟨rfl, rfl, rfl⟩

theorem ClockKept.trans {s t u : State} (h : ClockKept s t) (h' : ClockKept t u) : ClockKept s u :=
  ⟨h'.pending.trans h.pending, h'.choices.trans h.choices, h'.airClock.trans h.airClock⟩

theorem ClockKept.orCold {s t : State} (h : ClockKept s t) : ClockKeptOrCold s t := ⟨h.pending, h.choices, .inl h.airClock⟩

theorem ClockKept.transCold {s t u : State} (h : ClockKept s t) (h' : ClockKeptOrCold t u) : ClockKeptOrCold s u :=
  ⟨h'.pending.trans h.pending, h'.choices.trans h.choices, h.airClock ▸ h'.airClock⟩

theorem ClockKeptOrCold.refl (s : State) : ClockKeptOrCold s s := (ClockKept.refl s).orCold

theorem RequestStep.clockKept {s t : State} (h : RequestStep s t) : ClockKept s t := ⟨h.pending, h.choices, h.airClock⟩

theorem AirStep.clockKept {s t : State} (h : AirStep s t) : ClockKept s t := h.requestStep.clockKept

/-! ### The link controller -/

theorem withLink_clockKept (s : State) (l : Link) : ClockKept s (s.withLink l) := ⟨rfl, rfl, rfl⟩

theorem pump_clockKept (s : State) : ClockKept s (pump s) := ⟨pump_pending s, pump_choices s, pump_airClock s⟩

theorem placeOrDrop_clockKept (f : Frame) (s : State) : ClockKept s (placeOrDrop f s) := by
  unfold placeOrDrop
  split
  · exact withLink_clockKept s _
  · exact withLink_clockKept s _

theorem takeFrame_clockKept (f : Frame) (s : State) : ClockKept s (takeFrame f s) :=
  ((serve_requestStep f s).clockKept.trans (withLink_clockKept _ _)).trans (pump_clockKept (placeReply _ _))

theorem takeFrames_clockKept (n : Nat) (s : State) : ClockKept s (takeFrames n s) := by
  induction n generalizing s with
  | zero => exact ClockKept.refl s
  | succ n ih =>
    unfold takeFrames
    split
    · exact ClockKept.refl s
    · split
      · exact ((withLink_clockKept s _).trans (takeFrame_clockKept _ _)).trans (ih _)
      · exact ClockKept.refl s

theorem serveInbox_clockKept (s : State) : ClockKept s (serveInbox s) := takeFrames_clockKept _ s

theorem acceptFrame_clockKept (f : Frame) (s : State) : ClockKept s (acceptFrame f s) := by
  unfold acceptFrame
  split
  · exact (withLink_clockKept s _).trans (serveInbox_clockKept _)
  · exact (placeOrDrop_clockKept _ s).trans (pump_clockKept _)

theorem requestArrives_clockKept (f : Frame) (s : State) : ClockKept s (requestArrives f s) := by
  unfold requestArrives
  split
  · exact ClockKept.refl s
  · exact acceptFrame_clockKept f s

theorem rejectBadCrc_clockKept (f : Frame) (s : State) : ClockKept s (rejectBadCrc f s) := by
  unfold rejectBadCrc
  simp only
  split
  · exact ((withLink_clockKept s _).trans (withLink_clockKept _ _)).trans (pump_clockKept (placeReply _ (countLinkError s)))
  · exact withLink_clockKept s _

theorem judge_clockKept (f : Frame) (crc : Byte) (s : State) : ClockKept s (judge f crc s) := by
  unfold judge
  split
  · exact ClockKept.refl s
  · split
    · exact rejectBadCrc_clockKept f s
    · split
      · exact (placeOrDrop_clockKept _ s).trans (pump_clockKept _)
      · exact acceptFrame_clockKept f s

theorem judgeComplete_clockKept (s : State) : ClockKept s (judgeComplete s) := by
  unfold judgeComplete
  split
  · exact (withLink_clockKept s _).trans (judge_clockKept _ _ (huntAgain s))
  · exact ClockKept.refl s

theorem dropFrame_clockKept (s : State) : ClockKept s (dropFrame s) :=
  (withLink_clockKept s _).trans (withLink_clockKept (huntAgain s) _)

theorem dropIfReceiving_clockKept (s : State) : ClockKept s (dropIfReceiving s) := by
  unfold dropIfReceiving
  split
  · exact ClockKept.refl s
  all_goals exact dropFrame_clockKept s

theorem receiveByte_clockKept (b : Byte) (s : State) : ClockKept s (receiveByte b s) := by
  unfold receiveByte
  split
  case h_1 =>
    split
    · exact withLink_clockKept s _
    · exact ClockKept.refl s
  case h_2 =>
    split
    · exact dropFrame_clockKept s
    · exact withLink_clockKept s _
  case h_3 => exact withLink_clockKept s _
  case h_4 => exact withLink_clockKept s _
  case h_5 => exact ClockKept.refl s

theorem framingError_clockKept (b : Byte) (s : State) : ClockKept s (framingError b s) :=
  (dropIfReceiving_clockKept s).trans (withLink_clockKept _ _)

theorem takeCharacter_clockKept (b : Byte) (stopHigh : Bool) (s : State) : ClockKept s (takeCharacter b stopHigh s) := by
  unfold takeCharacter
  split
  · exact ClockKept.refl s
  · split
    · exact (judgeComplete_clockKept s).trans (receiveByte_clockKept b _)
    · exact (judgeComplete_clockKept s).trans (framingError_clockKept b _)

theorem lowLevelTimeout_clockKept (s : State) : ClockKept s (lowLevelTimeout s) :=
  ((dropIfReceiving_clockKept s).trans (withLink_clockKept _ _)).trans (withLink_clockKept (huntAgain _) _)

/-! ### Restarts -/

theorem warmRestart_clockKept (c : ModeCause) (s : State) : ClockKept s (pump (warmRestart c s)) := by
  obtain ⟨airClock, pending, choices, _⟩ := warmRestart_restarted c s
  exact ⟨pending, choices, airClock⟩

/-- A cold start out of reset sets the air clock to 0 (R2). -/
theorem coldRestart_clock (c : ModeCause) (s : State) : ClockKeptOrCold s (pump (coldRestart c s)) := by
  rw [coldRestart_reported]
  exact ⟨rfl, rfl, .inr rfl⟩

theorem breakRestart_clock (s : State) : ClockKeptOrCold s (pump (breakRestart s)) := by
  have marked : ClockKept s (markBreakTaken s) := withLink_clockKept s _
  by_cases mark : s.control.mark = some .cold
  · rw [breakRestart_cold mark]
    exact marked.transCold (coldRestart_clock .restartCold _)
  · rw [breakRestart_warm mark]
    exact marked.transCold (warmRestart_clockKept .lineBreak _).orCold

theorem frameSent_clock (s : State) : ClockKeptOrCold s (frameSent s) := by
  unfold frameSent
  split
  · rename_i kind _
    cases kind with
    | warm => exact (warmRestart_clockKept _ s).orCold
    | cold => exact coldRestart_clock _ s
  · exact (((withLink_clockKept s _).trans (pump_clockKept (freeTransmitter s))).trans (serveInbox_clockKept _)).orCold

theorem leaveReset_clockKept (rxd txon : Bool) (s : State) : ClockKept s (leaveReset rxd txon s) := by
  unfold leaveReset
  split
  · exact ClockKept.refl s
  · exact ⟨rfl, rfl, rfl⟩

/-! ### Events of the blocks -/

theorem withSense_clockKept (s : State) (x : Sense) : ClockKept s (s.withSense x) := ⟨rfl, rfl, rfl⟩

theorem settle_clockKept (s : State) : ClockKept s (settle s) := (reform_air s).clockKept.trans (pump_clockKept _)

theorem endBlanking_clockKept (s : State) : ClockKept s (endBlanking s) := by
  by_cases h : s.sense.tuning = .settled
  · rw [endBlanking_settled h]
    exact withSense_clockKept s _
  · rw [endBlanking_unsettled h]
    exact withSense_clockKept s _

theorem startTail_clockKept (s : State) : ClockKept s (startTail s) := by
  unfold startTail
  split
  · exact ClockKept.refl s
  · exact ClockKept.refl s
  · split
    · exact endBlanking_clockKept s
    · exact withSense_clockKept s _

theorem endSettling_clockKept (s : State) : ClockKept s (endSettling s) := by
  rw [endSettling_eq]
  exact withSense_clockKept s _

theorem drainScore_clockKept (s : State) : ClockKept s (drainScore s) := ⟨rfl, rfl, rfl⟩

theorem advanceTemplate_clockKept (s : State) :
    ClockKept s (s.withTemplate (s.planner.template.map Template.advanced)) := ⟨rfl, rfl, rfl⟩

theorem noticed_air {f : State → Noticed} (step : ∀ s, TrackingStep s (f s).1) (s : State) : AirStep s (noticed f s) :=
  (noticed_trackingStep step s).air

theorem takeCommitPoint_air (s : State) : AirStep s (takeCommitPoint s) := by
  unfold takeCommitPoint
  split
  · exact (recheck_plannerStep _ s).air
  · exact AirStep.refl s

theorem takeWindowStart_air (s : State) : AirStep s (takeWindowStart s) := by
  unfold takeWindowStart
  split
  · exact (openEntry_plannerStep _ s).air
  · exact AirStep.refl s

theorem takeWindowEnd_air (s : State) : AirStep s (takeWindowEnd s) := by
  unfold takeWindowEnd
  split
  · exact (removeEntry_plannerStep _ s).air
  · exact AirStep.refl s

theorem takeRetry_air (s : State) : AirStep s (takeRetry s) := by
  unfold takeRetry
  split
  · exact (rebase_plannerStep _ _ s).air
  · exact AirStep.refl s

/-- The release of the held record and the settlements it brings (R24, R73). -/
theorem releaseAndSweep_air (s : State) : AirStep s (sweepPending (releaseHeld s)) :=
  (releaseHeld_air s).trans (sweepPending_air _)

/-! ### Every command -/

/-- A command taken only out of reset answers a state that its effect, or no effect, leads to. -/
theorem outOfReset_answers {R : State → State → Prop} (refl : ∀ s, R s s) {f : State → State} (h : ∀ s, R s (f s))
    (s : State) : ∃ t, outOfReset f s = .next t ∧ R s t := by
  refine ⟨_, rfl, ?_⟩
  split
  · exact h s
  · exact refl s

theorem whenDue_rel {R : State → State → Prop} (refl : ∀ s, R s s) {f : State → State} (h : ∀ s, R s (f s))
    (due : State → Bool) (s : State) : R s (whenDue due f s) := by
  unfold whenDue
  split
  · exact h s
  · exact refl s

/-- A command whose effect keeps the clock. -/
theorem kept_answers {f : State → State} (h : ∀ s, ClockKept s (f s)) (s : State) :
    ∃ t, outOfReset f s = .next t ∧ ClockKept s t := outOfReset_answers ClockKept.refl h s

/-- An event whose effect, when it is due, keeps the clock. -/
theorem due_answers {f : State → State} (h : ∀ s, ClockKept s (f s)) (due : State → Bool) (s : State) :
    ∃ t, outOfReset (whenDue due f) s = .next t ∧ ClockKept s t := kept_answers (whenDue_rel ClockKept.refl h due) s

/-- An event of the air, when it is due. -/
theorem event_answers {f : State → State} (h : ∀ s, AirStep s (f s)) (due : State → Bool) (s : State) :
    ∃ t, event due f s = .next t ∧ ClockKept s t :=
  due_answers (fun s => (h s).clockKept.trans (settle_clockKept _)) due s

/-- A request arrives (R186, R187). -/
theorem arrive_answers (k : RequestKind) (ticket : Byte) (payload : List Byte) (s : State) :
    ∃ t, arrive k ticket payload s = .next t ∧ ClockKept s t := kept_answers (requestArrives_clockKept _) s

/-- An effect on the bookings after which the transmitter is offered what waits (R189). -/
theorem pumped_clockKept {f : State → State} (h : ∀ s, AirStep s (f s)) (s : State) : ClockKept s (pump (f s)) :=
  (h s).clockKept.trans (pump_clockKept _)

/-- Every command but the four that can bring a cold start answers a state with the clock kept. -/
theorem exec_clockKept {c : Instr} (notReset : c ≠ .resetNLow) (notPower : c ≠ .powerUp) (notSent : c ≠ .frameTransmitted)
    (notBreak : c ≠ .rxdBreak) (s : State) : ∃ t, exec c s = .next t ∧ ClockKept s t := by
  cases hc : requestOf c with
  | some f =>
    obtain ⟨k, ticket, payload, _, arrives⟩ := requestOf_arrival hc
    rw [arrives]
    exact arrive_answers k ticket payload s
  | none =>
    cases c
    case resetNLow => exact absurd rfl notReset
    case powerUp => exact absurd rfl notPower
    case frameTransmitted => exact absurd rfl notSent
    case rxdBreak => exact absurd rfl notBreak
    case characterReceived b stopHigh => exact kept_answers (takeCharacter_clockKept b stopHigh) s
    case frameComplete => exact kept_answers judgeComplete_clockKept s
    case frameTimeout => exact due_answers dropFrame_clockKept _ s
    case rxdLowTimeout => exact due_answers lowLevelTimeout_clockKept _ s
    case rxdReturnsHigh => exact kept_answers (fun s => withLink_clockKept s _) s
    case leaveReset rxd txon =>
      refine ⟨_, rfl, ?_⟩
      split
      · exact (leaveReset_clockKept rxd txon s).trans (pump_clockKept _)
      · exact ClockKept.refl s
    case txonRise => exact kept_answers (fun s => (startBlanking_air s).clockKept.trans (settle_clockKept _)) s
    case txonFall => exact kept_answers startTail_clockKept s
    case blankingEnd => exact due_answers endBlanking_clockKept _ s
    case settlingEnd => exact due_answers endSettling_clockKept _ s
    case energyReading level preamble => exact event_answers (takeReading_air level preamble) _ s
    case longBurstCut => exact event_answers cutLongBurst_air _ s
    case gapEndRelease => exact event_answers releaseAndSweep_air _ s
    case spanLimitRelease => exact event_answers releaseAndSweep_air _ s
    case scoreDrain => exact due_answers drainScore_clockKept _ s
    case dwellEnd => exact event_answers endDwell_air _ s
    case observedSinceAdvance => exact due_answers (fun s => withSense_clockKept s _) _ s
    case riseTest id => exact event_answers (noticed_air (decideRise_trackingStep id)) _ s
    case candidateExpiry id => exact event_answers (fun s => (freeTracker_trackingStep id .age s).air) _ s
    case trackerAgeLimit id => exact event_answers (noticed_air (ageTracker_trackingStep id)) _ s
    case dormantAgeLimit id => exact event_answers (noticed_air (ageDormant_trackingStep id)) _ s
    case guardStep id => exact due_answers (fun s => (reform_air s).clockKept) _ s
    case windowEdge => exact kept_answers (fun s => (reform_air s).clockKept) s
    case templateAnchorAdvance => exact due_answers advanceTemplate_clockKept _ s
    case commitPoint => exact due_answers (pumped_clockKept takeCommitPoint_air) _ s
    case windowStart => exact event_answers takeWindowStart_air _ s
    case windowEnd => exact event_answers takeWindowEnd_air _ s
    case seriesRetry => exact due_answers (pumped_clockKept takeRetry_air) _ s
    case armTemplate t m => cases m <;> cases hc
    all_goals cases hc

/-- The four others answer a state with the air clock as it was, or 0 after a cold start (R2). -/
theorem exec_clockKeptOrCold {c : Instr} (h : c = .resetNLow ∨ c = .powerUp ∨ c = .frameTransmitted ∨ c = .rxdBreak)
    (s : State) : ∃ t, exec c s = .next t ∧ ClockKeptOrCold s t := by
  rcases h with rfl | rfl | rfl | rfl
  · exact ⟨_, rfl, rfl, rfl, .inr rfl⟩
  · exact ⟨_, rfl, rfl, rfl, .inr rfl⟩
  · exact outOfReset_answers ClockKeptOrCold.refl (whenDue_rel ClockKeptOrCold.refl frameSent_clock _) s
  · exact outOfReset_answers ClockKeptOrCold.refl (whenDue_rel ClockKeptOrCold.refl breakRestart_clock _) s

end Sys2Proof.Machine

section
open Sys2Proof Sys2Proof.Machine

/-- Settles O3: by whether the command can bring a cold start. -/
theorem everyCommandAnswersAndKeepsTheClock : Obligations.EveryCommandAnswersAndKeepsTheClock := by
  intro c s
  by_cases cold : c = .resetNLow ∨ c = .powerUp ∨ c = .frameTransmitted ∨ c = .rxdBreak
  · obtain ⟨t, answers, kept⟩ := exec_clockKeptOrCold cold s
    exact ⟨t, answers, kept.pending, kept.choices, kept.airClock.imp_right fun zero => ⟨zero, cold⟩⟩
  · obtain ⟨notReset, notPower, notSent, notBreak⟩ : _ ∧ _ ∧ _ ∧ _ := by simpa only [not_or] using cold
    obtain ⟨t, answers, kept⟩ := exec_clockKept notReset notPower notSent notBreak s
    exact ⟨t, answers, kept.pending, kept.choices, .inl kept.airClock⟩
end

end

section
/-! PROOFS. Leaving reset. -/

namespace Sys2Proof.Machine

/-! ### A report handed to a link controller with nothing to send (R189, R190) -/

/-- With the transmitter FREE and nothing waiting, a report that is enabled goes out at once. -/
theorem pump_handReport_alone {k : ReportKind} {s : State} (fields : List Byte) (free : s.link.sending = none)
    (replies : s.link.replies = []) (reports : s.link.reports = []) (lost : s.link.lostPending = false)
    (enabled : s.link.enables.getLsbD k.bit = true) :
    pump (handReport k fields s) = s.withLink { s.link with
      sending := some
        { frame := reportFrame k false fields
          endsAt := Instant.plus s.airClock (reportFrame k false fields).lineTime } } := by
  have room : s.link.reports.length < 16 := by rw [reports]; decide
  have queued := Link.hand_queued fields enabled room
  rw [pump_report (rest := []) (f := reportFrame k false fields)]
  · rw [handReport_link, queued, ← lost, ← reports]
    rfl
  · rw [handReport_link, queued]; exact free
  · rw [handReport_link, queued]; exact replies
  · rw [handReport_link, queued, reports, lost]; rfl

/-! ### Leaving reset (R33, R177, R179, R180, R195) -/

/-- With RXD low the receiver waits for high, and the low level is measured from now (R180, R195). -/
theorem Link.started_eq (l : Link) (rxd : Bool) (now : Instant) :
    l.started rxd now = { l with
      waitHigh := !rxd || l.waitHigh
      rxdLow := if rxd then l.rxdLow else some { fall := now, restarted := false } } := by
  cases rxd <;> rfl

/-- With TXON high blanking is active (R33). -/
theorem Sense.started_eq (x : Sense) (txon : Bool) :
    x.started txon = { x with blanking := if txon then .active none else x.blanking } := by
  cases txon <;> rfl

/-- The cause of the MODE report that leaving reset brings (Table 9-4). -/
theorem ResetHold.cause_code (why : ResetHold) : why.cause.code = if why = .powerUp then 5 else 4 := by
  cases why <;> rfl

end Sys2Proof.Machine

section
open Sys2Proof Sys2Proof.Machine

/-- Settles O6: the MODE report finds the transmitter FREE and nothing before it. -/
theorem leavingReset : Obligations.LeavingReset := by
  refine fun rxd txon s => ⟨fun run => ?_, fun why held free replies reports lost enabled => ?_⟩
  · simp only [exec, execLeaveReset, run, Option.isSome_none, Bool.false_eq_true, if_false]
  · have taken : exec (.leaveReset rxd txon) s = .next (pump (leaveReset rxd txon s)) := by
      simp only [exec, execLeaveReset, held, Option.isSome_some, if_true]
    rw [taken, leaveReset, held]
    simp only [modeReport, Link.started_eq, Sense.started_eq, ResetHold.cause_code]
    rw [pump_handReport_alone]
    · rfl
    · exact free
    · exact replies
    · exact reports
    · exact lost
    · exact enabled
end

end

section
/-! PROOFS. START and STOP. -/

namespace Sys2Proof.Machine

/-! ### START (R13, R37, R42, R51, R167) -/

/-- A pending plan comes into use, and without one nothing changes (R37). -/
theorem applyPlan_eq (s : State) :
    applyPlan s = s.withDwells { s.dwells with
      plan := s.dwells.pendingPlan.getD s.dwells.plan, pendingPlan := none
      pointer := if s.dwells.pendingPlan.isSome then 0 else s.dwells.pointer
      forceOperating := s.dwells.pendingPlan.isSome || s.dwells.forceOperating } := by
  unfold applyPlan
  cases pending : s.dwells.pendingPlan with
  | none =>
    simp only [Option.getD_none, Option.isSome_none, Bool.false_eq_true, if_false, Bool.false_or]
    rw [← pending]
    rfl
  | some p => rfl

/-- A dwell start on a channel: settings, restart point, and a retune unless the receiver is tuned there (R13, R17). -/
theorem senseDwellStart_eq (c : Nat) (s : State) :
    senseDwellStart c s = s.withSense { s.sense with
      settings := s.sense.pendingSettings.getD s.sense.settings, pendingSettings := none
      detector := .quiet Run.empty, fresh := true, restartPoint := s.airClock, restartCode := s.planner.lines
      tuned := some c
      tuning := if s.sense.tuned = some c then s.sense.tuning else .settling (Instant.plus s.airClock 200)
      observedSince := if s.sense.tuned = some c then s.sense.observedSince else none } := by
  unfold senseDwellStart
  by_cases here : s.sense.tuned = some c
  · simp only [restartDetection_withSense, State.withSense_sense, here, if_true]
  · simp only [restartDetection_withSense, State.withSense_sense, here, if_false]
    rfl

/-- START's dwell sequence begins with an operating dwell on O (R42). -/
theorem beginSequence_eq {s : State} {o : Nat} (operating : s.dwells.operating = some o) :
    beginSequence s = senseDwellStart o (s.withDwells { s.dwells with
      plan := s.dwells.pendingPlan.getD s.dwells.plan, pendingPlan := none, pointer := 0, group := 0
      forceOperating := false, advice := Advice.rearmed
      current := some
        { kind := .operating, channel := o, start := s.airClock
          plannedEnd := Instant.plus s.airClock (s.dwells.pendingPlan.getD s.dwells.plan).operatingLength
          busy := 0, unstructuredBusy := 0, observed := 0, structuredCount := 0, unstructuredCount := 0 } }) := by
  simp only [beginSequence, applyPlan_eq, startOperating, State.withDwells_dwells, operating]
  rfl

/-- The checks of START after its mode byte, in order (R167). -/
theorem startChecked_running {m : Mode} {s : State} (h : s.control.mode ≠ .standby) :
    startChecked m s = refuse stWrongMode s := by
  rw [startChecked, if_pos h]

theorem startChecked_noChannel {m : Mode} {s : State} (standby : s.control.mode = .standby)
    (h : s.dwells.operating = none) : startChecked m s = refuse stNoChannel s := by
  rw [startChecked, if_neg (not_not.2 standby), h, if_pos Option.isNone_none]

theorem startChecked_taken {m : Mode} {s : State} {o : Nat} (standby : s.control.mode = .standby)
    (h : s.dwells.operating = some o) : startChecked m s = enterRunning m s := by
  rw [startChecked, if_neg (not_not.2 standby), h, Option.isNone_some, if_neg Bool.false_ne_true]

/-- A mode byte that names a mode START can enter (R167). -/
theorem requestStart_mode {m : Mode} (s : State) (h : m = .observe ∨ m = .active) :
    requestStart m.code s = startChecked m s := by
  rcases h with rfl | rfl <;> rfl

/-- Every other mode byte is refused (R167). -/
theorem requestStart_badMode {mode : Byte} (s : State) (h1 : mode ≠ 1) (h2 : mode ≠ 2) :
    requestStart mode s = refuse stBadArg s := by
  rw [requestStart, if_neg h1, if_neg h2]

/-- The two mode bytes that START takes name the modes it can enter (R167, Table 9-2). -/
theorem startMode_of_byte {mode : Byte} (h : mode = 1 ∨ mode = 2) :
    ∃ m : Mode, (m = .observe ∨ m = .active) ∧ mode = m.code := by
  rcases h with rfl | rfl
  · exact ⟨.observe, .inl rfl, rfl⟩
  · exact ⟨.active, .inr rfl, rfl⟩

/-! ### STOP (R14, R42, R56, R85, R148, R168) -/

/-- A survey in flight is aborted with its report; without one nothing changes (R56). -/
theorem abortSurvey_eq (s : State) :
    abortSurvey s = { s with
      dwells := { s.dwells with survey := { s.dwells.survey with phase := .none } }
      link :=
        if s.dwells.survey.phase = .none then s.link
        else s.link.hand .surveyDone [0x20, byteOf s.dwells.survey.channel, 0, 0, 0, 0, 0, 0, 0] } := by
  unfold abortSurvey
  by_cases idle : s.dwells.survey.phase = .none
  · rw [if_pos idle, if_pos idle, ← idle]
  · rw [if_neg idle, if_neg idle]
    rfl

/-- The return to STANDBY leaves the lines OPEN (R116, R168). -/
theorem reform_idle {s : State} (h : s.control.mode = .standby) :
    reform s = s.withPlanner { s.planner with lines := .openAir } := by
  rw [reform, formedCode_idle (.inl h)]

end Sys2Proof.Machine

section
open Sys2Proof Sys2Proof.Machine

/-- Settles O15: by the checks of START. The lines are the code formed after everything else. -/
theorem startBeginsTheDwellSequence : Obligations.StartBeginsTheDwellSequence := by
  refine ⟨fun t m o s ready standby operating hm => ?_, fun t mode s ready =>
    ⟨fun h1 h2 => ?_, fun hmode running => ?_, fun hmode standby none_set => ?_⟩⟩
  · have begun := beginSequence_eq (s := s.setMode m) operating
    refine ⟨reform (beginSequence (s.setMode m)), ?_, ?_, reform_formed _, fun observe => reform_observe ?_⟩
    · rw [start_served ready, requestStart_mode s hm, startChecked_taken standby operating]
      rfl
    · rw [begun, senseDwellStart_eq]
      rfl
    · rw [begun, senseDwellStart_eq]
      exact observe
  · rw [start_served ready, requestStart_badMode s h1 h2]
    rfl
  · obtain ⟨m, hm, rfl⟩ := startMode_of_byte hmode
    rw [start_served ready, requestStart_mode s hm, startChecked_running running]
    rfl
  · obtain ⟨m, hm, rfl⟩ := startMode_of_byte hmode
    rw [start_served ready, requestStart_mode s hm, startChecked_noChannel standby none_set]
    rfl

/-- Settles O16: every part of the return to STANDBY changes a block of its own. -/
theorem stopReturnsToStandby : Obligations.StopReturnsToStandby := by
  refine fun t s ready => ⟨fun standby => ?_, fun running => ?_⟩
  · rw [stop_served ready, requestStop, if_pos standby]
    rfl
  · rw [stop_served ready, requestStop, if_neg running, stopRunning, abortSurvey_eq, reform_idle rfl]
    rfl
end

end

section
/-! PROOFS. The burst assembler, and what a delivered record brings. -/

namespace Sys2Proof.Machine

/-! ### The burst assembler (R19, R23 to R25) -/

/-- A structured or a long record is released at once (R19, R23). -/
theorem assemble_released {r : BurstRecord} (s : State) (h : r.structured = true ∨ r.long = true) :
    assemble r s = deliver r s := by
  rw [assemble, if_pos ((Bool.or_eq_true _ _).mpr h)]

/-- Another record is held when the assembler is empty (R23). -/
theorem assemble_alone {r : BurstRecord} {s : State} (unstructured : r.structured = false) (short : r.long = false)
    (empty : s.sense.held = none) : assemble r s = hold r s := by
  simp only [assemble, unstructured, short, Bool.or_self, Bool.false_eq_true, if_false, empty]

/-- A merge partner is joined with the held record (R24, R25). -/
theorem assemble_partner {r : BurstRecord} {s : State} {h : HeldRecord} (unstructured : r.structured = false)
    (short : r.long = false) (held : s.sense.held = some h) (partner : h.admits r.start = true) :
    assemble r s = hold (merged h.record r) s := by
  simp only [assemble, unstructured, short, Bool.or_self, Bool.false_eq_true, if_false, held, partner, if_true]

/-- A record is held while its gap end instant has not passed (R23). -/
theorem hold_kept {r : BurstRecord} {s : State}
    (ahead : Instant.before (Instant.plus r.finish s.sense.settings.mergeGap) s.airClock = false) :
    hold r s = s.withHeld (some { record := r, gapEnd := Instant.plus r.finish s.sense.settings.mergeGap }) := by
  simp only [hold, ahead, Bool.false_eq_true, if_false]

/-- A record whose gap end instant has passed is released at once (R24). -/
theorem hold_released {r : BurstRecord} {s : State}
    (passed : Instant.before (Instant.plus r.finish s.sense.settings.mergeGap) s.airClock = true) :
    hold r s = deliver r (s.withHeld none) := by
  simp only [hold, passed, if_true]

/-! ### A delivery leaves the dwell to the dwell scheduler (R28, R45, R54) -/

/-- The policy of an escalation does not touch the dwell scheduler (R156, R157). -/
theorem applyPolicy_dwells (s : State) : (applyPolicy s).1.dwells = s.dwells := by
  unfold applyPolicy
  split
  · rfl
  · exact (relearn_trackingStep s).dwells
  · exact (changeMode_plannerStep _ s).dwells
  · exact (changeMode_plannerStep _ s).dwells

/-- Nor does the escalation unit's taking of a record. -/
theorem escalationTest_dwells (r : BurstRecord) (assoc : Option Nat) (s : State) :
    (escalationTest r assoc s).dwells = s.dwells := by
  unfold escalationTest countSurprise
  split
  · dsimp only
    split
    · exact applyPolicy_dwells _
    · rfl
  · rfl

/-- A record counted in a dwell, field by field (R45). -/
theorem Dwell.count_eq (d : Dwell) (r : BurstRecord) :
    d.count r = { d with
      busy := d.busy + r.duration
      unstructuredBusy := d.unstructuredBusy + (if r.structured then 0 else r.duration)
      structuredCount := if r.structured then min 65535 (d.structuredCount + 1) else d.structuredCount
      unstructuredCount := if r.structured then d.unstructuredCount else min 65535 (d.unstructuredCount + 1) } := by
  cases h : r.structured <;> simp only [Dwell.count, h, saturate, Bool.false_eq_true, if_false, if_true, Nat.add_zero]

/-- The tracker that joins the survey's list: the associated one, while the survey dwells and does not hold it (R54). -/
theorem Survey.noted_append (v : Survey) (assoc : Option Nat) :
    v.noted assoc = { v with trackers := v.trackers ++
      (match assoc with
        | some id => if v.phase = .dwelling ∧ id ∉ v.trackers then [id] else []
        | none => []) } := by
  rcases v with ⟨phase, channel, duration, trackers⟩
  cases assoc with
  | none => cases phase <;> simp [Survey.noted]
  | some id =>
    cases phase with
    | dwelling => by_cases known : id ∈ trackers <;> simp [Survey.noted, known]
    | none => simp [Survey.noted]
    | waiting => simp [Survey.noted]

/-- A delivery, unit by unit (R28). -/
theorem deliver_eq {r : BurstRecord} {s u : State} {assoc : Option Nat} (tracked : trackRecord r s = (u, assoc)) :
    deliver r s = dwellTakes r assoc (escalationTest r assoc u) := by
  rw [deliver, tracked]

/-- The record is counted in the current dwell (R45). -/
theorem deliver_current (r : BurstRecord) (s : State) :
    (deliver r s).dwells.current = s.dwells.current.map (fun d => d.count r) := by
  have kept := (trackRecord_trackingStep r s).dwells
  cases tracked : trackRecord r s with
  | mk u assoc =>
    rw [tracked] at kept
    rw [deliver_eq tracked, dwellTakes, State.withDwells_dwells, escalationTest_dwells, kept]

/-! ### The tracking unit takes a record (R60, R73, R84) -/

/-- The record's outcome, then the pending rises settled, then one notice. -/
theorem trackRecord_of_outcome {r : BurstRecord} {s : State} {out : Noticed} {assoc : Option Nat}
    (h : recordOutcome r s = (out, assoc)) :
    trackRecord r s =
      (planChangeIf ((List.range 12).foldl (settleByRecord r assoc) out).2
        ((List.range 12).foldl (settleByRecord r assoc) out).1, assoc) := by
  rw [trackRecord, h, trackerIds_eq]

/-- A best match takes the record (R60). -/
theorem recordOutcome_match {r : BurstRecord} {s : State} {id : Nat} (best : bestMatch s r trackerIds = some id) :
    recordOutcome r s = (associate id r s, some id) := by
  simp only [recordOutcome, best]

/-- Without a match a structured record may anchor a beacon (R60, R63). -/
theorem recordOutcome_anchor {r : BurstRecord} {s : State} (unmatched : bestMatch s r trackerIds = none)
    (structured : r.structured = true) : recordOutcome r s = (((tryAnchor r s).1, false), (tryAnchor r s).2) := by
  simp only [recordOutcome, unmatched, structured, if_true]

/-- Without a match an unstructured record takes the candidate test (R60, R67). -/
theorem recordOutcome_candidate {r : BurstRecord} {s : State} (unmatched : bestMatch s r trackerIds = none)
    (unstructured : r.structured = false) : recordOutcome r s = (candidateTest r s, none) := by
  simp only [recordOutcome, unmatched, unstructured, Bool.false_eq_true, if_false]

end Sys2Proof.Machine

section
open Sys2Proof Sys2Proof.Machine

/-- Settles O42: a record that is held, its own or joined, is released by its gap end; a delivery is read unit by unit. -/
theorem assemblerHoldsMergesOrReleases : Obligations.AssemblerHoldsMergesOrReleases := by
  intro r s
  refine ⟨assemble_released s, fun unstructured short m which gapEnd hgap => ?_, deliver_delivery r s, fun d hd => ?_,
    fun assoc u v tracked hv => ?_, fun out assoc settled hmatch hanchor hcandidate hsettled => ?_⟩
  · have held : assemble r s = hold m s := by
      rcases which with ⟨empty, rfl⟩ | ⟨h, held, partner, rfl⟩
      · exact assemble_alone unstructured short empty
      · exact assemble_partner unstructured short held partner
    rw [held, hgap]
    exact ⟨hold_kept, hold_released⟩
  · refine ⟨d.count r, by rw [deliver_current, hd, Option.map_some], ?_⟩
    rw [Dwell.count_eq]
    exact ⟨rfl, rfl, rfl, rfl⟩
  · rw [deliver_eq tracked, ← hv, dwellTakes, Survey.noted_append]
    simp only [Dwell.count_eq]
    rfl
  · have outcome : recordOutcome r s = (out, assoc) := by
      cases best : bestMatch s r trackerIds with
      | some id =>
        obtain ⟨rfl, rfl⟩ := hmatch id best
        exact recordOutcome_match best
      | none =>
        cases structured : r.structured with
        | true =>
          obtain ⟨rfl, rfl⟩ := hanchor best structured
          exact recordOutcome_anchor best structured
        | false =>
          obtain ⟨rfl, rfl⟩ := hcandidate best structured
          exact recordOutcome_candidate best structured
    rw [trackRecord_of_outcome outcome, ← hsettled]
    rfl
end

end

section
/-! PROOFS. TXON going high, energy readings, and the release of the held record. -/

namespace Sys2Proof.Machine

/-! ### TXON going high (R20, R21, R23) -/

/-- The receiver as TXON going high leaves it before a cut burst is assembled (R20). -/
def blanked (s : State) : State :=
  { s with sense := { s.sense with
    blanking := .active none, observedSince := none, detector := .quiet Run.empty } }

/-- With blanking active already only the tail in progress is given up (R20). -/
theorem startBlanking_again {s : State} (h : s.sense.blanking ≠ .inactive) :
    startBlanking s = { s with sense := { s.sense with blanking := .active none } } := by
  unfold startBlanking
  split
  · exact absurd ‹_› h
  · rfl

/-- With nothing but a run in progress, observation ends and the held record is looked at again (R20, R24). -/
theorem startBlanking_quiet {s : State} {run : Run} (inactive : s.sense.blanking = .inactive)
    (quiet : s.sense.detector = .quiet run) :
    startBlanking s = sweepPending (releaseOverdue (blanked s)) := by
  simp only [startBlanking, inactive, breakObservation, cutRecord, State.withSense_sense, quiet]
  rfl

/-- A burst in progress is cut into the assembler: truncated at the present instant with below count 0, and otherwise as
its last reading at or above the threshold had it (R21). -/
theorem startBlanking_burst {s : State} {below : Nat} {b : Burst} (inactive : s.sense.blanking = .inactive)
    (burst : s.sense.detector = .inBurst below b) :
    startBlanking s = sweepPending (releaseOverdue (assemble
      (burstRecord s b (if below = 0 then s.airClock else b.last + 4) (decide (below = 0)) false) (blanked s))) := by
  by_cases zero : below = 0
  · simp only [startBlanking, inactive, breakObservation, cutRecord, State.withSense_sense, burst, zero, if_true]
    rfl
  · simp only [startBlanking, inactive, breakObservation, cutRecord, State.withSense_sense, burst, zero, if_false]
    rfl

/-- Beyond the cut itself, TXON going high brings what a delivery can bring. -/
theorem startBlanking_delivery {s : State} (inactive : s.sense.blanking = .inactive) :
    DeliveryStep (blanked s) (startBlanking s) := by
  cases det : s.sense.detector with
  | quiet run =>
    rw [startBlanking_quiet inactive det]
    exact followUp_delivery _
  | inBurst below b =>
    rw [startBlanking_burst inactive det]
    exact (assemble_delivery _ _).trans (followUp_delivery _)

/-! ### Readings (R15 to R19) -/

/-- A reading's level against the threshold, its level held within -100 to 0 dBm (R15). -/
theorem above_iff (d : DetectSettings) (level : Int) :
    d.above level = true ↔ d.threshold ≤ max (-100) (min 0 level) := by
  rw [DetectSettings.above, clamp_eq _ _ _ (by decide), decide_eq_true_eq]

theorem not_above_iff (d : DetectSettings) (level : Int) :
    d.above level = false ↔ max (-100) (min 0 level) < d.threshold := by
  rw [← Bool.not_eq_true, above_iff, not_le]

/-- The reading of the present instant can be taken (R15, R17). -/
structure ReadingDue (s : State) : Prop where
  instant : s.airClock.toNat % 4 = 0
  fresh : s.sense.readingTaken = false
  settled : s.sense.tuning = .settled
  inactive : s.sense.blanking = .inactive
  observed : ∃ o, s.sense.observedSince = some o ∧ Instant.atOrBefore o (s.airClock - 4) = true
  restart : Instant.atOrBefore s.sense.restartPoint (s.airClock - 4) = true

theorem ReadingDue.readingDue {s : State} (h : ReadingDue s) : readingDue s = true := by
  obtain ⟨o, since, observed⟩ := h.observed
  have four : Instant.minus s.airClock 4 = s.airClock - 4 := rfl
  simp only [Machine.readingDue, Sense.observing, h.instant, h.fresh, h.settled, h.inactive, since, four, observed,
    h.restart, decide_true, Bool.not_false, Bool.and_self, and_self]

/-- A reading that is due, out of reset, is taken. -/
theorem energyReading_taken {s : State} (run : Running s) (due : ReadingDue s) (level : Int) (preamble : Bool) :
    exec (.energyReading level preamble) s = .next (pump (reform (takeReading level preamble s))) :=
  event_taken (takeReading level preamble) run due.readingDue

/-- The state with the reading of the present instant taken and a new detector (R15). -/
def readingLeaves (s : State) (fresh : Bool) (d : Detector) : State :=
  { s with sense := { s.sense with readingTaken := true, fresh := fresh, detector := d } }

section
variable {s : State} {run : Run} {below : Nat} {b : Burst} {level : Int} (preamble : Bool)

/-- In QUIET a reading below the threshold ends the run and clears the fresh mark (R16, R17). -/
theorem takeReading_quiet_below (quiet : s.sense.detector = .quiet run) (low : s.sense.settings.above level = false) :
    takeReading level preamble s
      = sweepPending (releaseOverdue (readingLeaves s false (.quiet Run.empty))) := by
  simp only [takeReading, State.withSense_sense, quiet, readQuiet, low, Bool.false_eq_true, if_false]
  rfl

/-- In QUIET a reading at or above the threshold that is not the fifth counts in the run (R16). -/
theorem takeReading_quiet_counts (quiet : s.sense.detector = .quiet run) (high : s.sense.settings.above level = true)
    (few : run.count ≤ 3) :
    takeReading level preamble s = sweepPending (releaseOverdue (readingLeaves s s.sense.fresh
      (.quiet (run.next (s.airClock - 4) s.sense.readingCode)))) := by
  have short : ¬ 5 ≤ (run.next (Instant.minus s.airClock 4) s.sense.readingCode).count := by
    unfold Run.next
    split <;> (dsimp only; omega)
  simp only [takeReading, State.withSense_sense, quiet, readQuiet, high, short, if_true, if_false]
  rfl

/-- The fifth reading of a run qualifies a burst (R16). -/
theorem takeReading_quiet_qualifies (quiet : s.sense.detector = .quiet run)
    (high : s.sense.settings.above level = true) (four : 4 ≤ run.count) :
    takeReading level preamble s = sweepPending (releaseOverdue (readingLeaves s false
      (.inBurst 0 (qualified s.sense run (s.airClock - 4) preamble)))) := by
  have counted : run.next (Instant.minus s.airClock 4) s.sense.readingCode = { run with count := run.count + 1 } := by
    rw [Run.next, if_neg (by omega)]
  have five : 5 ≤ run.count + 1 := by omega
  simp only [takeReading, State.withSense_sense, quiet, readQuiet, high, counted, five, if_true]
  rfl

/-- In IN_BURST a reading at or above the threshold becomes the last such reading (R18). -/
theorem takeReading_burst_above (burst : s.sense.detector = .inBurst below b)
    (high : s.sense.settings.above level = true) :
    takeReading level preamble s = sweepPending (releaseOverdue (readingLeaves s s.sense.fresh
      (.inBurst 0 { b with last := s.airClock - 4 }))) := by
  simp only [takeReading, State.withSense_sense, burst, readInBurst, high, if_true]
  rfl

/-- In IN_BURST one of the first eleven below the threshold counts (R18). -/
theorem takeReading_burst_below (burst : s.sense.detector = .inBurst below b)
    (low : s.sense.settings.above level = false) (few : below < 11) :
    takeReading level preamble s = sweepPending (releaseOverdue (readingLeaves s s.sense.fresh
      (.inBurst (below + 1) b))) := by
  have short : ¬ 12 ≤ below + 1 := by omega
  simp only [takeReading, State.withSense_sense, burst, readInBurst, low, short, Bool.false_eq_true, if_false]
  rfl

/-- In IN_BURST the twelfth below the threshold ends the burst, and its record goes to the assembler (R18, R23). -/
theorem takeReading_burst_ends (burst : s.sense.detector = .inBurst below b)
    (low : s.sense.settings.above level = false) (twelfth : 11 ≤ below) :
    takeReading level preamble s = sweepPending (releaseOverdue (assemble
      (burstRecord s b (b.last + 4) false false) (readingLeaves s s.sense.fresh (.quiet Run.empty)))) := by
  have long : 12 ≤ below + 1 := by omega
  simp only [takeReading, State.withSense_sense, burst, readInBurst, low, long, Bool.false_eq_true, if_false, if_true]
  rfl

end

/-! ### The cut of a long burst (R22) -/

/-- A burst is cut at 30,000 µs when its latest reading was at or above the threshold (R22; log 39). -/
theorem longBurstDue_iff {s : State} {below : Nat} {b : Burst} (burst : s.sense.detector = .inBurst below b) :
    longBurstDue s = true ↔ below = 0 ∧ (s.airClock - b.start).toNat = 30000 := by
  rw [longBurstDue, burst]
  exact decide_eq_true_iff

/-- The record of the cut lasts 30,000 µs, and the cut is a restart point (R17, R22). -/
theorem cutLongBurst_eq {s : State} {below : Nat} {b : Burst} (burst : s.sense.detector = .inBurst below b) :
    cutLongBurst s = sweepPending (releaseOverdue (assemble
      { channel := s.sense.tuned.getD 0, start := b.start, finish := b.start + 30000, duration := 30000
        structured := b.structured, truncated := true, cutAtStart := b.cutAtStart, long := true, code := b.code }
      (restartDetection s))) := by
  have lasted : Instant.elapsed b.start (Instant.plus b.start 30000) = 30000 := by
    rw [Instant.elapsed, Instant.plus, BitVec.add_comm, BitVec.add_sub_cancel]
    rfl
  simp only [cutLongBurst, burst, burstRecord, lasted]
  rfl

/-! ### The release of the held record (R24) -/

section
variable {s : State} {h : HeldRecord}

theorem releaseHeld_some (held : s.sense.held = some h) :
    releaseHeld s = deliver h.record { s with sense := { s.sense with held := none } } := by
  simp only [releaseHeld, held]
  rfl

/-- The gap end instant counts when it has been reached with no partner and no run to wait for (R24). -/
theorem gapEndReached_iff (held : s.sense.held = some h) :
    gapEndReached s = true ↔ Instant.atOrBefore h.gapEnd s.airClock = true ∧ partnerInProgress s.sense h = false ∧
      runInTime s.sense h = false := by
  rw [gapEndReached, held]
  simp only [Bool.and_eq_true, Bool.not_eq_true', and_assoc]

/-- An unstructured burst that began by the gap end is the partner in progress (R24). -/
theorem partnerInProgress_iff (x : Sense) (h : HeldRecord) :
    partnerInProgress x h = true ↔
      ∃ below b, x.detector = .inBurst below b ∧ b.structured = false ∧ Instant.atOrBefore b.start h.gapEnd = true := by
  cases det : x.detector with
  | quiet run => simp [partnerInProgress, det]
  | inBurst below b => simp [partnerInProgress, det, HeldRecord.admits]

/-- A run whose first reading lies at or before the gap end is waited for (R24). -/
theorem runInTime_iff (x : Sense) (h : HeldRecord) :
    runInTime x h = true ↔
      ∃ run, x.detector = .quiet run ∧ 0 < run.count ∧ Instant.atOrBefore run.first h.gapEnd = true := by
  cases det : x.detector with
  | quiet run => simp [runInTime, det, HeldRecord.admits]
  | inBurst below b => simp [runInTime, det]

/-- The span limit counts while the partner is in progress (R24). -/
theorem spanLimitReached_iff (held : s.sense.held = some h) :
    spanLimitReached s = true ↔
      partnerInProgress s.sense h = true ∧ 30000 ≤ (s.airClock - h.record.start).toNat := by
  rw [spanLimitReached, held]
  simp only [Bool.and_eq_true, decide_eq_true_eq]
  rfl

/-- At its gap end instant the held record is released (R24). -/
theorem gapEndRelease_taken (run : Running s) (due : gapEndReached s = true) :
    exec .gapEndRelease s = .next (pump (reform (sweepPending (releaseHeld s)))) :=
  event_taken (fun s => sweepPending (releaseHeld s)) run due

theorem gapEndRelease_skipped (waits : gapEndReached s = false) : exec .gapEndRelease s = .next s :=
  event_skipped _ waits

/-- At its span limit too (R24). -/
theorem spanLimitRelease_taken (run : Running s) (due : spanLimitReached s = true) :
    exec .spanLimitRelease s = .next (pump (reform (sweepPending (releaseHeld s)))) :=
  event_taken (fun s => sweepPending (releaseHeld s)) run due

end

end Sys2Proof.Machine

section
open Sys2Proof Sys2Proof.Machine

/-- Settles O38: by blanking and by what the detector has in progress. -/
theorem blankingCutsWhatIsObserved : Obligations.BlankingCutsWhatIsObserved := by
  intro s run
  have taken : exec .txonRise s = .next (pump (reform (startBlanking s))) :=
    outOfReset_running (fun s => settle (startBlanking s)) run
  rw [taken]
  refine ⟨fun active => by rw [startBlanking_again active], fun inactive u hu =>
    ⟨⟨startBlanking s, rfl, hu ▸ startBlanking_delivery inactive⟩, fun r quiet => ?_,
      fun below b burst finish hfinish => ?_⟩⟩
  · rw [startBlanking_quiet inactive quiet, hu]
    rfl
  · rw [startBlanking_burst inactive burst, ← hfinish, hu]
    rfl

/-- Settles O40: by the level of the reading and the count of the run. -/
theorem readingsInQuiet : Obligations.ReadingsInQuiet := by
  intro s o run level preamble running instant fresh settled inactive since observed restart quiet taken htaken
  have due : ReadingDue s := ⟨instant, fresh, settled, inactive, ⟨o, since, observed⟩, restart⟩
  rw [energyReading_taken running due]
  refine ⟨fun low => ?_, fun high => ⟨fun zero => ?_, fun counted few => ?_, fun four => ?_⟩⟩
  · rw [takeReading_quiet_below preamble quiet ((not_above_iff _ _).2 low), htaken]
    rfl
  · rw [takeReading_quiet_counts preamble quiet ((above_iff _ _).2 high) (by omega), Run.next, if_pos zero, htaken]
    rfl
  · rw [takeReading_quiet_counts preamble quiet ((above_iff _ _).2 high) few, Run.next, if_neg (by omega), htaken]
    rfl
  · rw [takeReading_quiet_qualifies preamble quiet ((above_iff _ _).2 high) four, htaken]
    rfl

/-- Settles O41: by the level of the reading and the below count. -/
theorem readingsInBurst : Obligations.ReadingsInBurst := by
  intro s below b running burst
  refine ⟨fun o level preamble instant fresh settled inactive since observed restart taken htaken => ?_,
    fun zero age => ?_, fun some_below => ?_⟩
  · have due : ReadingDue s := ⟨instant, fresh, settled, inactive, ⟨o, since, observed⟩, restart⟩
    rw [energyReading_taken running due]
    refine ⟨fun high => ?_, fun low => ⟨fun few => ?_, fun twelfth => ?_⟩⟩
    · rw [takeReading_burst_above preamble burst ((above_iff _ _).2 high), htaken]
      rfl
    · rw [takeReading_burst_below preamble burst ((not_above_iff _ _).2 low) few, htaken]
      rfl
    · rw [takeReading_burst_ends preamble burst ((not_above_iff _ _).2 low) twelfth, htaken]
      rfl
  · have cut : exec .longBurstCut s = .next (pump (reform (cutLongBurst s))) :=
      event_taken cutLongBurst running ((longBurstDue_iff burst).2 ⟨zero, age⟩)
    rw [cut, cutLongBurst_eq burst]
    rfl
  · exact event_skipped _ (Bool.eq_false_iff.2 fun due => Nat.ne_of_gt some_below ((longBurstDue_iff burst).1 due).1)

/-- Settles O43: by what the receiver has in progress at the gap end. -/
theorem heldRecordReleased : Obligations.HeldRecordReleased := by
  intro s h running held released hreleased
  rw [hreleased, ← releaseHeld_some held]
  refine ⟨fun reached no_burst no_run => ?_, fun run quiet counted in_time => ?_,
    fun below b burst unstructured in_time => ?_⟩
  · refine gapEndRelease_taken running ((gapEndReached_iff held).2 ⟨reached, ?_, ?_⟩)
    · refine Bool.eq_false_iff.2 fun partner => ?_
      obtain ⟨below, b, burst, _, in_time⟩ := (partnerInProgress_iff _ _).1 partner
      exact Bool.eq_false_iff.1 (no_burst below b burst) in_time
    · refine Bool.eq_false_iff.2 fun waited => ?_
      obtain ⟨run, quiet, counted, in_time⟩ := (runInTime_iff _ _).1 waited
      exact Bool.eq_false_iff.1 (no_run run quiet counted) in_time
  · have waited : runInTime s.sense h = true := (runInTime_iff _ _).2 ⟨run, quiet, counted, in_time⟩
    refine gapEndRelease_skipped (Bool.eq_false_iff.2 fun due => ?_)
    obtain ⟨_, _, not_waited⟩ := (gapEndReached_iff held).1 due
    exact Bool.eq_false_iff.1 not_waited waited
  · have partner : partnerInProgress s.sense h = true :=
      (partnerInProgress_iff _ _).2 ⟨below, b, burst, unstructured, in_time⟩
    refine ⟨gapEndRelease_skipped (Bool.eq_false_iff.2 fun due => ?_), fun span =>
      spanLimitRelease_taken running ((spanLimitReached_iff held).2 ⟨partner, span⟩)⟩
    obtain ⟨_, no_partner, _⟩ := (gapEndReached_iff held).1 due
    exact Bool.eq_false_iff.1 no_partner partner
end

end

section
/-! PROOFS. Misses, the test of a predicted rise, and the settlement of pending rises. -/

namespace Sys2Proof.Machine

/-! ### An entry written -/

/-- Of two writes to one entry the later stands. -/
theorem State.setTracker_setTracker (s : State) (id : Nat) (x y : Tracker) :
    (s.setTracker id x).setTracker id y = s.setTracker id y := by
  simp only [State.setTracker, State.withTracking, List.set_set]

/-- A written entry reads back. -/
theorem State.setTracker_tracker_self {s : State} {id : Nat} (bound : id < s.tracking.entries.length) (x : Tracker) :
    (s.setTracker id x).tracker id = x := by
  rw [State.setTracker_tracker bound, if_pos rfl]

/-! ### A miss, by the state and kind of the entry (R74) -/

section
variable {s : State} {id : Nat} {x : Tracker} (hx : s.tracker id = x)
include hx

/-- A miss below the limit of the entry's state is counted and no more. -/
theorem miss_counted (locked : x.state ≠ .locked ∨ saturate 31 x.misses < s.tracking.settings.missLimit)
    (acquiring : x.state ≠ .acquiring ∨ saturate 31 x.misses < 3) :
    miss id s = (s.setTracker id { x with misses := saturate 31 x.misses }, false) := by
  cases st : x.state with
  | locked =>
    have few := Nat.not_le.2 (locked.resolve_left (not_not.2 st))
    simp only [miss, hx, st, few, if_false]
  | acquiring =>
    have few := Nat.not_le.2 (acquiring.resolve_left (not_not.2 st))
    simp only [miss, hx, st, few, if_false]
  | free => simp only [miss, hx, st]
  | candidate => simp only [miss, hx, st]
  | dormant => simp only [miss, hx, st]

/-- A LOCKED entry at the miss limit becomes DORMANT, with a report and a notice. -/
theorem miss_locked (locked : x.state = .locked)
    (limit : s.tracking.settings.missLimit ≤ saturate 31 x.misses) :
    miss id s = (trackerReport id x.kind .locked .dormant .misses (s.setTracker id x.asDormant), true) := by
  simp only [miss, hx, locked, limit, if_true]
  rfl

/-- An ACQUIRING OVEN entry is freed by its third miss, with a report and a notice. -/
theorem miss_oven (acquiring : x.state = .acquiring) (third : 3 ≤ saturate 31 x.misses) (oven : x.kind = .oven) :
    miss id s = (trackerReport id .oven .acquiring .free .misses (s.setTracker id Tracker.free), true) := by
  simp only [miss, freeTracker, hx, acquiring, third, oven, if_true]

/-- An ACQUIRING BEACON entry loses its anchor by its third miss, with a report and no notice. -/
theorem miss_beacon (acquiring : x.state = .acquiring) (third : 3 ≤ saturate 31 x.misses) (beacon : x.kind = .beacon) :
    miss id s = (trackerReport id .beacon .acquiring .acquiring .misses (s.setTracker id
      { x with anchored := false, anchor := 0, run := 0, misses := 0, lastHit := none, pendingRise := none, nextRise := 0 }),
      false) := by
  simp only [miss, hx, acquiring, third, beacon, if_true, Tracker.asUnanchored]

end

/-! ### What the tests read (R30, R72) -/

/-- The entries that decide their predicted rises (R72). -/
theorem Tracker.decides_iff (x : Tracker) :
    x.decides = true ↔
      (x.state = .acquiring ∨ x.state = .locked) ∧ (x.kind = .oven ∨ x.anchored = true) := by
  cases st : x.state <;> simp [Tracker.decides, st]

/-- The capture half-width of an entry that decides (Table 4-3). -/
theorem Tracker.halfWidth_deciding {x : Tracker} (h : x.state = .acquiring ∨ x.state = .locked) :
    x.halfWidth = if x.kind = .oven then (if x.state = .locked then 400 else 2000)
      else (if x.state = .locked then 200 else 1000) := by
  rcases h with st | st <;> cases kind : x.kind <;> simp [Tracker.halfWidth, Machine.halfWidth, st, kind]

/-- The rise E_k, counted in natural numbers (R72). -/
theorem Tracker.riseOf_eq (x : Tracker) (k : Nat) : x.riseOf k = x.anchor + BitVec.ofNat 36 (k * x.period) := by
  rw [Tracker.riseOf, Sixteenth.plus, ← Nat.cast_mul, BitVec.ofInt_natCast]

/-- A pending rise that RELEARN has kept is due at its test instant (R156). -/
theorem Tracker.retestDue_iff (x : Tracker) (now : Instant) :
    x.retestDue now = true ↔ ∃ p, x.pendingRise = some p ∧ p.retest = true ∧
      Instant.atOrBefore (testInstant p.rise p.halfWidth) now = true := by
  cases pending : x.pendingRise <;> simp [Tracker.retestDue, pending]

/-- The observation test: the tuned channel in the entry's coverage, observed since the start of the capture stretch
(R30). -/
theorem observes_iff (v : Sense) (x : Tracker) (e : Sixteenth) :
    observes v x e = true ↔
      (∃ c, v.tuned = some c ∧ (x.kind = .oven → c ∈ x.span) ∧ (x.kind = .beacon → x.channel = c)) ∧
      ∃ o, v.observedSince = some o ∧
        Instant.atOrBefore o (Instant.minus (Sixteenth.down e) x.halfWidth) = true := by
  rw [observes, Bool.and_eq_true]
  refine and_congr ?_ ?_
  · cases v.tuned <;> cases kind : x.kind <;> simp [Tracker.hearsChannel, kind]
  · cases v.observedSince <;> simp

/-- What the sense receiver holds: a run, a burst in progress, and a held record (R72, R73). -/
theorem mem_heldStarts (v : Sense) (i : Instant) :
    i ∈ heldStarts v ↔
      (∃ run, v.detector = .quiet run ∧ 0 < run.count ∧ i = run.first) ∨
        (∃ below b, v.detector = .inBurst below b ∧ i = b.start) ∨ (∃ h, v.held = some h ∧ i = h.record.start) := by
  rw [heldStarts, List.mem_append, ← or_assoc]
  refine or_congr ?_ ?_
  · cases v.detector with
    | quiet run => by_cases counted : 0 < run.count <;> simp [counted]
    | inBurst below b => simp
  · cases v.held <;> simp

theorem holdsInCapture_iff (v : Sense) (e : Sixteenth) (w : Nat) :
    holdsInCapture v e w = true ↔ ∃ i ∈ heldStarts v, inCapture e w i = true := List.any_eq_true

theorem not_holdsInCapture_iff (v : Sense) (e : Sixteenth) (w : Nat) :
    holdsInCapture v e w = false ↔ ∀ i ∈ heldStarts v, inCapture e w i = false := by
  rw [holdsInCapture, List.any_eq_false]
  simp only [Bool.not_eq_true]

/-! ### The test of the next rise (R72) -/

section
variable {s : State} {id : Nat} {x : Tracker} (hx : s.tracker id = x)
include hx

/-- Unobserved, the rise has no effect but that the following one is next. -/
theorem testNextRise_unobserved (unobserved : observes s.sense x (x.riseOf x.nextRise) = false) :
    testNextRise id s = (s.setTracker id { x with nextRise := x.nextRise + 1 }, false) := by
  simp only [testNextRise, hx, State.setTracker_sense, unobserved, Bool.false_eq_true, if_false]

/-- Observed with something held and no rise pending, it becomes the pending rise. -/
theorem testNextRise_pending (observed : observes s.sense x (x.riseOf x.nextRise) = true)
    (free : x.pendingRise = none) (held : holdsInCapture s.sense (x.riseOf x.nextRise) x.halfWidth = true) :
    testNextRise id s = (s.setTracker id { x with
      nextRise := x.nextRise + 1
      pendingRise := some { rise := x.riseOf x.nextRise, halfWidth := x.halfWidth, retest := false } }, false) := by
  simp only [testNextRise, hx, State.setTracker_sense, observed, held, free, Option.isNone_none, Bool.and_self, if_true,
    State.setTracker_setTracker]

/-- Observed otherwise, it is a miss. -/
theorem testNextRise_missed (observed : observes s.sense x (x.riseOf x.nextRise) = true)
    (other : x.pendingRise ≠ none ∨ holdsInCapture s.sense (x.riseOf x.nextRise) x.halfWidth = false) :
    testNextRise id s = miss id (s.setTracker id { x with nextRise := x.nextRise + 1 }) := by
  have no_place : (holdsInCapture s.sense (x.riseOf x.nextRise) x.halfWidth && x.pendingRise.isNone) = false := by
    rw [Bool.and_eq_false_iff]
    exact other.symm.imp_right fun some_pending => Option.isNone_eq_false_iff.2 (Option.isSome_iff_ne_none.2 some_pending)
  simp only [testNextRise, hx, State.setTracker_sense, observed, no_place, Bool.false_eq_true, if_true, if_false]

/-! ### The second test of a pending rise (R72, R156) -/

/-- A pending rise dropped (R73). -/
theorem dropPending_eq : dropPending id s = s.setTracker id { x with pendingRise := none } := by
  rw [dropPending, hx]

variable {p : PendingRise} (pending : x.pendingRise = some p)
include pending

/-- Unobserved, it is dropped without a miss. -/
theorem retestRise_unobserved (unobserved : observes s.sense x p.rise = false) :
    retestRise id s = (s.setTracker id { x with pendingRise := none }, false) := by
  simp only [retestRise, hx, pending, unobserved, Bool.false_eq_true, if_false, dropPending_eq hx]

/-- Observed with something held, it stays the pending rise. -/
theorem retestRise_kept (observed : observes s.sense x p.rise = true)
    (held : holdsInCapture s.sense p.rise p.halfWidth = true) :
    retestRise id s = (s.setTracker id { x with pendingRise := some { p with retest := false } }, false) := by
  simp only [retestRise, hx, pending, observed, held, if_true]

/-- Observed otherwise, it is a miss. -/
theorem retestRise_missed (observed : observes s.sense x p.rise = true)
    (nothing : holdsInCapture s.sense p.rise p.halfWidth = false) :
    retestRise id s = miss id (s.setTracker id { x with pendingRise := none }) := by
  simp only [retestRise, hx, pending, observed, nothing, Bool.false_eq_true, if_true, if_false, settleAsMiss,
    dropPending_eq hx]

end

/-! ### A rise decided (R72, R156) -/

section
variable {s : State} {id : Nat} {x : Tracker} (run : Running s) (hx : s.tracker id = x) (decides : x.decides = true)
include run hx decides

/-- A pending rise that is due to be tested again goes before the next rise. -/
theorem riseTest_retest (retest : x.retestDue s.airClock = true) :
    exec (.riseTest id) s
      = .next (pump (reform (planChangeIf (retestRise id s).2 (retestRise id s).1))) := by
  have due : riseDue s id = true := by
    rw [riseDue, hx, decides, retest]
    rfl
  have decided : decideRise id s = retestRise id s := by rw [decideRise, hx, if_pos retest]
  rw [← decided]
  exact event_taken (noticed (decideRise id)) run due

/-- Otherwise the next rise is decided when its test instant has been reached. -/
theorem riseTest_next (none_due : ¬ x.retestDue s.airClock = true)
    (reached : Instant.atOrBefore (testInstant (x.riseOf x.nextRise) x.halfWidth) s.airClock = true) :
    exec (.riseTest id) s
      = .next (pump (reform (planChangeIf (testNextRise id s).2 (testNextRise id s).1))) := by
  have due : riseDue s id = true := by
    rw [riseDue, hx, decides, reached, Bool.or_true]
    rfl
  have decided : decideRise id s = testNextRise id s := by rw [decideRise, hx, if_neg none_due]
  rw [← decided]
  exact event_taken (noticed (decideRise id)) run due

end

/-! ### Pending rises settled (R73) -/

section
variable {s : State} {id : Nat} {x : Tracker} (hx : s.tracker id = x) (notice : Bool)
include hx

/-- A pending rise settled as a miss is dropped first (R73). -/
theorem settleAsMiss_eq : settleAsMiss id s = miss id (s.setTracker id { x with pendingRise := none }) := by
  rw [settleAsMiss, dropPending_eq hx]

theorem sweepEntry_nothing (none_pending : x.pendingRise = none) : sweepEntry (s, notice) id = (s, notice) := by
  simp only [sweepEntry, hx, none_pending]

theorem settleByRecord_nothing (none_pending : x.pendingRise = none) (r : BurstRecord) (assoc : Option Nat) :
    settleByRecord r assoc (s, notice) id = (s, notice) := by
  simp only [settleByRecord, hx, none_pending]

variable {p : PendingRise} (pending : x.pendingRise = some p)
include pending

/-- A pending rise waits while something held starts in its capture stretch. -/
theorem sweepEntry_waits (held : holdsInCapture s.sense p.rise p.halfWidth = true) :
    sweepEntry (s, notice) id = (s, notice) := by
  simp only [sweepEntry, hx, pending, held, if_true]

/-- With nothing held there any more it is a miss. -/
theorem sweepEntry_missed (nothing : holdsInCapture s.sense p.rise p.halfWidth = false) :
    sweepEntry (s, notice) id =
      ((miss id (s.setTracker id { x with pendingRise := none })).1,
        notice || (miss id (s.setTracker id { x with pendingRise := none })).2) := by
  simp only [sweepEntry, hx, pending, nothing, Bool.false_eq_true, if_false, settleAsMiss_eq hx]

/-- A record that starts outside the capture stretch settles nothing. -/
theorem settleByRecord_outside {r : BurstRecord} (assoc : Option Nat)
    (outside : inCapture p.rise p.halfWidth r.start = false) :
    settleByRecord r assoc (s, notice) id = (s, notice) := by
  simp only [settleByRecord, hx, pending, outside, Bool.false_eq_true, if_false]

/-- A record associated with the entry settles its pending rise without a miss. -/
theorem settleByRecord_hit {r : BurstRecord} {assoc : Option Nat} (inside : inCapture p.rise p.halfWidth r.start = true)
    (own : assoc = some id) :
    settleByRecord r assoc (s, notice) id = (s.setTracker id { x with pendingRise := none }, notice) := by
  simp only [settleByRecord, hx, pending, inside, own, if_true, dropPending_eq hx]

/-- Any other record in the capture stretch settles it as a miss. -/
theorem settleByRecord_missed {r : BurstRecord} {assoc : Option Nat}
    (inside : inCapture p.rise p.halfWidth r.start = true) (other : assoc ≠ some id) :
    settleByRecord r assoc (s, notice) id =
      ((miss id (s.setTracker id { x with pendingRise := none })).1,
        notice || (miss id (s.setTracker id { x with pendingRise := none })).2) := by
  simp only [settleByRecord, hx, pending, inside, other, if_true, if_false, settleAsMiss_eq hx]

end

end Sys2Proof.Machine

section
open Sys2Proof Sys2Proof.Machine

/-- Settles O46: by which rise is tested, whether it is observed and held, and the state and kind of the entry. -/
theorem predictedRiseDecided : Obligations.PredictedRiseDecided := by
  refine ⟨fun s id x e w run bound hx state anchored he hw retest observed hretest hobserved set m hm hset => ?_,
    fun e w i lo hi hlo hhi => by rw [hlo, hhi]; exact decide_eq_true_iff, mem_heldStarts,
    fun s id x bound hx set m dropped missed hm hset hdropped hmissed => ?_,
    fun s swept hswept => by rw [sweepPending, trackerIds_eq, ← hswept]; rfl⟩
  · obtain rfl : set = s.setTracker id := funext hset
    obtain rfl : w = x.halfWidth := by
      rw [hw, Tracker.halfWidth_deciding state]
      cases x.kind <;> rfl
    obtain rfl : e = x.riseOf x.nextRise := by rw [he, Tracker.riseOf_eq]
    have decides : x.decides = true := x.decides_iff.2 ⟨state, anchored⟩
    have hretest : retest ↔ x.retestDue s.airClock = true := hretest.trans (x.retestDue_iff _).symm
    have hobserved (rise) : observed rise ↔ observes s.sense x rise = true :=
      (hobserved rise).trans (observes_iff _ _ _).symm
    have unobserved {rise} (h : ¬ observed rise) : observes s.sense x rise = false :=
      Bool.eq_false_iff.2 fun o => h ((hobserved rise).2 o)
    refine ⟨fun none_due reached => ?_, fun due p pending missed hmissed => ?_⟩
    · rw [riseTest_next run hx.symm decides (mt hretest.2 none_due) reached]
      refine ⟨fun h => ?_, fun h free held => ?_, fun h other => ?_⟩
      · rw [testNextRise_unobserved hx.symm (unobserved h)]
        rfl
      · rw [testNextRise_pending hx.symm ((hobserved _).1 h) free ((holdsInCapture_iff _ _ _).2 held)]
        rfl
      · have written := State.setTracker_tracker_self bound { x with nextRise := x.nextRise + 1 }
        rw [testNextRise_missed hx.symm ((hobserved _).1 h) (other.imp_right (not_holdsInCapture_iff _ _ _).2), hm]
        refine ⟨fun few => ?_, fun locked limit => ?_, fun acquiring third oven => ?_, fun acquiring third beacon => ?_⟩
        · rw [miss_counted written, State.setTracker_setTracker]
          · rfl
          · rcases few with ⟨_, few⟩ | ⟨acquiring, _⟩
            · exact .inr few
            · exact .inl (by simp [acquiring])
          · rcases few with ⟨locked, _⟩ | ⟨_, few⟩
            · exact .inl (by simp [locked])
            · exact .inr few
        · rw [miss_locked written locked limit, State.setTracker_setTracker]
          rfl
        · rw [miss_oven written acquiring third oven, State.setTracker_setTracker]
          rfl
        · rw [miss_beacon written acquiring third beacon, State.setTracker_setTracker]
          rfl
    · rw [riseTest_retest run hx.symm decides (hretest.1 due)]
      refine ⟨fun h => ?_, fun h held => ?_, fun h nothing => ?_⟩
      · rw [retestRise_unobserved hx.symm pending (unobserved h)]
        rfl
      · rw [retestRise_kept hx.symm pending ((hobserved _).1 h) ((holdsInCapture_iff _ _ _).2 held)]
        rfl
      · rw [retestRise_missed hx.symm pending ((hobserved _).1 h) ((not_holdsInCapture_iff _ _ _).2 nothing), ← hmissed]
        rfl
  · obtain rfl : set = s.setTracker id := funext hset
    rw [hm, hmissed, hdropped]
    refine ⟨miss_counted hx.symm, miss_locked hx.symm, miss_oven hx.symm, miss_beacon hx.symm,
      fun notice => ⟨fun none_pending => ⟨sweepEntry_nothing hx.symm notice none_pending,
        settleByRecord_nothing hx.symm notice none_pending⟩, fun p pending => ⟨fun held => ?_, fun nothing => ?_,
        fun r assoc => ⟨settleByRecord_outside hx.symm notice pending assoc, fun inside =>
          ⟨settleByRecord_hit hx.symm notice pending inside, settleByRecord_missed hx.symm notice pending inside⟩⟩⟩⟩⟩
    · exact sweepEntry_waits hx.symm notice pending ((holdsInCapture_iff _ _ _).2 held)
    · exact sweepEntry_missed hx.symm notice pending ((not_holdsInCapture_iff _ _ _).2 nothing)
end

end

section
/-! PROOFS. Queues, counts and channel records within their fields under every step. -/

namespace Sys2Proof.Machine

/-! ### Bounds carried from one state to another -/

/-- Whatever lies within its fields before, of the link controller, the escalation unit and the channel records, does so
after. -/
structure BoundsKept (s t : State) : Prop where
  link : LinkBounded s → LinkBounded t
  escalation : EscalationBounded s → EscalationBounded t
  records : RecordsSound s → RecordsSound t

theorem BoundsKept.refl (s : State) : BoundsKept s s := ⟨id, id, id⟩

theorem BoundsKept.trans {s t u : State} (h : BoundsKept s t) (h' : BoundsKept t u) : BoundsKept s u :=
  ⟨h'.link ∘ h.link, h'.escalation ∘ h.escalation, h'.records ∘ h.records⟩

/-- What an event of the air does to the link controller keeps its bounds. -/
theorem AirStep.linkBounded {s t : State} (h : AirStep s t) : LinkBounded s → LinkBounded t := by
  rintro ⟨inbox, replies, reports, errors, before⟩
  exact ⟨h.link.inbox ▸ inbox, h.link.replies.length_eq ▸ replies, h.link.bounded reports, h.link.errors ▸ errors,
    h.link.errorsBefore ▸ before⟩

theorem EscalationBounded.of_eq {s t : State} (h : t.escalation = s.escalation) :
    EscalationBounded s → EscalationBounded t := by
  unfold EscalationBounded
  rw [h]
  exact id

theorem RecordsSound.of_eq {s t : State} (h : t.dwells.records = s.dwells.records) : RecordsSound s → RecordsSound t := by
  unfold RecordsSound
  rw [h]
  exact id

theorem TrackingStep.boundsKept {s t : State} (h : TrackingStep s t) : BoundsKept s t :=
  ⟨h.air.linkBounded, .of_eq h.escalation, .of_eq (by rw [h.dwells])⟩

theorem PlannerStep.boundsKept {s t : State} (h : PlannerStep s t) : BoundsKept s t := h.tracked.boundsKept

theorem handReport_boundsKept (k : ReportKind) (fs : List Byte) (s : State) : BoundsKept s (handReport k fs s) :=
  (handReport_plannerStep k fs s).boundsKept

theorem planChange_boundsKept (s : State) : BoundsKept s (planChange s) := (planChange_plannerStep s).boundsKept

theorem withSense_boundsKept (s : State) (x : Sense) : BoundsKept s (s.withSense x) := { BoundsKept.refl s with }

theorem withTracking_boundsKept (s : State) (x : Tracking) : BoundsKept s (s.withTracking x) :=
  { BoundsKept.refl s with }

theorem withPlanner_boundsKept (s : State) (p : Planner) : BoundsKept s (s.withPlanner p) := { BoundsKept.refl s with }

theorem withControl_boundsKept (s : State) (c : Control) : BoundsKept s (s.withControl c) := { BoundsKept.refl s with }

theorem withDwells_boundsKept {s : State} {d : Dwells} (h : d.records = s.dwells.records) :
    BoundsKept s (s.withDwells d) :=
  { BoundsKept.refl s with records := .of_eq h }

theorem reform_boundsKept (s : State) : BoundsKept s (reform s) := withPlanner_boundsKept s _

/-! ### The escalation unit (R152, R156 to R160) -/

/-- A count held at `top` (00_scope, Rounding). -/
theorem saturate_le (top n : Nat) : saturate top n ≤ top := Nat.min_le_left _ _

theorem changeMode_boundsKept (m : Mode) (s : State) : BoundsKept s (changeMode m s) :=
  ((withControl_boundsKept s _).trans (reform_boundsKept (s.setMode m))).trans (changeMode_plannerStep m s).boundsKept

/-- The replies of the instant that are given another mode stay as many (R173). -/
theorem amendModeReplies_boundsKept (m : Mode) (s : State) : BoundsKept s (amendModeReplies m s) :=
  { BoundsKept.refl s with link := (amendModeReplies_air m s).linkBounded }

theorem escalateMode_boundsKept (m : Mode) (s : State) : BoundsKept s (escalateMode m s).1 :=
  ((changeMode_boundsKept m s).trans (amendModeReplies_boundsKept m _)).trans (handReport_boundsKept _ _ _)

theorem applyPolicy_boundsKept (s : State) : BoundsKept s (applyPolicy s).1 := by
  unfold applyPolicy
  split
  · exact BoundsKept.refl s
  · dsimp only
    exact (relearn_trackingStep s).boundsKept
  · exact escalateMode_boundsKept _ s
  · exact escalateMode_boundsKept _ s

/-- A score of at most 15 keeps the escalation unit's bounds. -/
theorem withScore_boundsKept (s : State) {n : Nat} (h : n ≤ 15) :
    BoundsKept s (s.withEscalation { s.escalation with score := n }) :=
  { BoundsKept.refl s with escalation := fun bounds => ⟨h, bounds.2⟩ }

/-- The further count of the fault record is held at 255 (R160). -/
theorem fillFault_boundsKept (s0 : State) (r : BurstRecord) (action : ActionTaken) (s : State) :
    BoundsKept s (fillFault s0 r action s) where
  link := id
  records := id
  escalation := by
    rintro ⟨score, low, high, _⟩
    refine ⟨score, low, high, fun f filled => ?_⟩
    obtain rfl := Option.some.inj filled
    unfold FaultRecord.after
    split
    · exact Nat.zero_le _
    · exact saturate_le _ _

theorem setEscalated_boundsKept (s : State) : BoundsKept s (s.withLink s.link.setEscalated) :=
  { BoundsKept.refl s with }

theorem escalate_boundsKept (r : BurstRecord) (s : State) : BoundsKept s (escalate r s) := by
  unfold escalate
  dsimp only
  refine BoundsKept.trans ?_ (handReport_boundsKept _ _ _)
  refine BoundsKept.trans ?_ (setEscalated_boundsKept _)
  refine BoundsKept.trans ?_ (fillFault_boundsKept s r _ _)
  exact (withScore_boundsKept s (Nat.zero_le _)).trans (applyPolicy_boundsKept _)

theorem escalationTest_boundsKept (r : BurstRecord) (assoc : Option Nat) (s : State) :
    BoundsKept s (escalationTest r assoc s) := by
  unfold escalationTest countSurprise
  split
  · have counted := withScore_boundsKept s (saturate_le 15 s.escalation.score)
    dsimp only
    split
    · exact counted.trans (escalate_boundsKept _ _)
    · exact counted
  · exact BoundsKept.refl s

/-! ### Delivery, assembly and releases (R23 to R26, R28) -/

theorem deliver_boundsKept (r : BurstRecord) (s : State) : BoundsKept s (deliver r s) :=
  ((trackRecord_trackingStep r s).boundsKept.trans (escalationTest_boundsKept r _ _)).trans (withDwells_boundsKept rfl)

theorem hold_boundsKept (r : BurstRecord) (s : State) : BoundsKept s (hold r s) := by
  unfold hold
  dsimp only
  split
  · exact (withSense_boundsKept s _).trans (deliver_boundsKept _ _)
  · exact withSense_boundsKept s _

theorem assemble_boundsKept (r : BurstRecord) (s : State) : BoundsKept s (assemble r s) := by
  unfold assemble
  split
  · exact deliver_boundsKept r s
  · split
    · exact hold_boundsKept r s
    · split
      · exact hold_boundsKept _ s
      · exact ((withSense_boundsKept s _).trans (deliver_boundsKept _ _)).trans (hold_boundsKept _ _)

theorem releaseHeld_boundsKept (s : State) : BoundsKept s (releaseHeld s) := by
  unfold releaseHeld
  split
  · exact (withSense_boundsKept s _).trans (deliver_boundsKept _ _)
  · exact BoundsKept.refl s

theorem sweepPending_boundsKept (s : State) : BoundsKept s (sweepPending s) := (sweepPending_trackingStep s).boundsKept

/-- The releases and settlements that follow an event of the sense receiver (R24, R73). -/
theorem followUp_boundsKept (s : State) : BoundsKept s (sweepPending (releaseOverdue s)) := by
  refine BoundsKept.trans ?_ (sweepPending_boundsKept _)
  unfold releaseOverdue
  split
  · split
    · exact releaseHeld_boundsKept s
    · exact BoundsKept.refl s
  · exact BoundsKept.refl s

theorem cutLongBurst_boundsKept (s : State) : BoundsKept s (cutLongBurst s) := by
  unfold cutLongBurst
  split
  · exact BoundsKept.refl s
  · exact ((withSense_boundsKept s _).trans (assemble_boundsKept _ (restartDetection s))).trans (followUp_boundsKept _)

theorem readInBurst_boundsKept (below : Nat) (b : Burst) (i : Instant) (above : Bool) (s : State) :
    BoundsKept s (readInBurst below b i above s) := by
  unfold readInBurst
  split
  · exact withSense_boundsKept s _
  · split
    · exact (withSense_boundsKept s _).trans (assemble_boundsKept _ _)
    · exact withSense_boundsKept s _

theorem takeReading_boundsKept (level : Int) (preamble : Bool) (s : State) :
    BoundsKept s (takeReading level preamble s) := by
  unfold takeReading
  refine BoundsKept.trans ?_ (followUp_boundsKept _)
  split
  · exact withSense_boundsKept s _
  · exact (withSense_boundsKept s _).trans (readInBurst_boundsKept _ _ _ _ _)

theorem startBlanking_boundsKept (s : State) : BoundsKept s (startBlanking s) := by
  by_cases inactive : s.sense.blanking = .inactive
  · have blanking : BoundsKept s (blanked s) := { BoundsKept.refl s with }
    cases det : s.sense.detector with
    | quiet run =>
      rw [startBlanking_quiet inactive det]
      exact blanking.trans (followUp_boundsKept _)
    | inBurst below b =>
      rw [startBlanking_burst inactive det]
      exact (blanking.trans (assemble_boundsKept _ _)).trans (followUp_boundsKept _)
  · rw [startBlanking_again inactive]
    exact { BoundsKept.refl s with }

theorem senseDwellStart_boundsKept (c : Nat) (s : State) : BoundsKept s (senseDwellStart c s) := by
  rw [senseDwellStart_eq]
  exact withSense_boundsKept s _

theorem senseDwellEnd_boundsKept (s : State) : BoundsKept s (senseDwellEnd s) := by
  unfold senseDwellEnd
  refine (withSense_boundsKept s { s.sense with held := none, detector := .quiet Run.empty }).trans
    (BoundsKept.trans ?_ (sweepPending_boundsKept _))
  split
  · exact BoundsKept.refl _
  · exact deliver_boundsKept _ _
  · exact deliver_boundsKept _ _
  · split
    · exact deliver_boundsKept _ _
    · exact (deliver_boundsKept _ _).trans (deliver_boundsKept _ _)

/-! ### The dwell scheduler (R37 to R46, R50 to R56) -/

theorem startDwell_boundsKept (k : DwellKind) (c len : Nat) (s : State) : BoundsKept s (startDwell k c len s) := by
  refine BoundsKept.trans ?_ (senseDwellStart_boundsKept c _)
  exact withDwells_boundsKept rfl

theorem startOperating_boundsKept (s : State) : BoundsKept s (startOperating s) := by
  unfold startOperating
  split
  · exact withDwells_boundsKept rfl
  · refine BoundsKept.trans ?_ (startDwell_boundsKept _ _ _ _)
    exact withDwells_boundsKept rfl

theorem startSequenceDwell_boundsKept (s : State) : BoundsKept s (startSequenceDwell s) := by
  unfold startSequenceDwell
  split
  · exact startOperating_boundsKept s
  · split
    · exact startOperating_boundsKept s
    · refine BoundsKept.trans ?_ (startDwell_boundsKept _ _ _ _)
      exact withDwells_boundsKept rfl

theorem startSurveyDwell_boundsKept (s : State) : BoundsKept s (startSurveyDwell s) := by
  refine BoundsKept.trans ?_ (startDwell_boundsKept _ _ _ _)
  exact withDwells_boundsKept rfl

theorem applyPlan_boundsKept (s : State) : BoundsKept s (applyPlan s) := by
  rw [applyPlan_eq]
  exact withDwells_boundsKept rfl

theorem startNextDwell_boundsKept (b : Bool) (s : State) : BoundsKept s (startNextDwell b s) := by
  refine (applyPlan_boundsKept s).trans ?_
  unfold startNextDwell
  dsimp only
  split
  · exact startSurveyDwell_boundsKept _
  · exact startSequenceDwell_boundsKept _

theorem beginSequence_boundsKept (s : State) : BoundsKept s (beginSequence s) := by
  unfold beginSequence
  refine BoundsKept.trans ?_ (startOperating_boundsKept _)
  exact (applyPlan_boundsKept s).trans (withDwells_boundsKept rfl)

/-- A load moved toward a share stays within 0 to 1,000 (R46). -/
theorem smoothLoad_le (load x : Nat) : smoothLoad load x ≤ 1000 := by
  rw [smoothLoad, clamp_eq _ _ _ (by decide)]
  omega

/-- The record of a channel that a dwell updates lies within its fields (R46). -/
theorem updateRecord_boundsKept (d : Dwell) (s : State) : BoundsKept s (updateRecord d s) := by
  unfold updateRecord
  split
  · refine { BoundsKept.refl s with records := ?_ }
    rintro ⟨size, sound⟩
    refine ⟨(List.length_set ..).trans size, fun r mem => ?_⟩
    rcases List.mem_or_eq_of_mem_set mem with old | rfl
    · exact sound r old
    · exact ⟨smoothLoad_le _ _, smoothLoad_le _ _, saturate_le _ _⟩
  · exact BoundsKept.refl s

theorem closeDwell_boundsKept (s : State) : BoundsKept s (closeDwell s) := by
  refine (senseDwellEnd_boundsKept s).trans ?_
  unfold closeDwell
  dsimp only
  split
  · exact updateRecord_boundsKept _ _
  · exact BoundsKept.refl _

theorem withAdvice_boundsKept (s : State) (a : Advice) : BoundsKept s (s.withAdvice a) := withDwells_boundsKept rfl

theorem adviceTest_boundsKept (s : State) : BoundsKept s (adviceTest s) := by
  unfold adviceTest
  split
  · split
    · split
      · exact (handReport_boundsKept _ _ s).trans (withAdvice_boundsKept _ _)
      · exact withAdvice_boundsKept _ _
    · exact BoundsKept.refl s
  · exact withAdvice_boundsKept _ _

theorem endCycle_boundsKept (s : State) : BoundsKept s (endCycle s) := by
  refine BoundsKept.trans ?_ (adviceTest_boundsKept _)
  exact withDwells_boundsKept rfl

theorem finishSurvey_boundsKept (d : Dwell) (s : State) : BoundsKept s (finishSurvey d s) :=
  (handReport_boundsKept _ _ s).trans (withDwells_boundsKept rfl)

theorem afterDwell_boundsKept (d : Dwell) (s : State) : BoundsKept s (afterDwell d s) := by
  have cycle (kind : DwellKind) : BoundsKept s (if endsCycle s.dwells kind then endCycle s else s) := by
    split
    · exact endCycle_boundsKept s
    · exact BoundsKept.refl s
  unfold afterDwell
  split
  · exact finishSurvey_boundsKept d s
  · exact cycle .operating
  · exact cycle .offChannel

theorem endDwell_boundsKept (s : State) : BoundsKept s (endDwell s) := by
  unfold endDwell
  dsimp only
  refine BoundsKept.trans ?_ (startNextDwell_boundsKept _ _)
  refine (closeDwell_boundsKept s).trans ?_
  split
  · exact afterDwell_boundsKept _ _
  · exact BoundsKept.refl _

theorem cutDwell_boundsKept (s : State) : BoundsKept s (cutDwell s) := by
  unfold cutDwell
  split
  · exact BoundsKept.refl s
  · split
    · exact BoundsKept.refl s
    · exact (closeDwell_boundsKept s).trans (startNextDwell_boundsKept _ _)
    · exact (closeDwell_boundsKept s).trans (startNextDwell_boundsKept _ _)

theorem takeChannel_boundsKept (c : Nat) (s : State) : BoundsKept s (takeChannel c s) := withDwells_boundsKept rfl

theorem changeChannel_boundsKept (c : Nat) (s : State) : BoundsKept s (changeChannel c s) :=
  ((((takeChannel_boundsKept c s).trans (rebaseForChannel_plannerStep _).boundsKept).trans
    (cutDwell_boundsKept _)).trans (freeCandidates_trackingStep _).boundsKept).trans (planChange_boundsKept _)

end Sys2Proof.Machine
end

section
/-! PROOFS. Queues, counts and channel records within their fields: requests, the link controller and every command. -/

namespace Sys2Proof.Machine

/-! ### What a taken request can answer (R187) -/

/-- The answers to a taken request: those that leave the state as it is, whether they read it or refuse the request, and
those of the blocks that act on it. -/
inductive Served (s : State) : Answer → Prop
  | unchanged (fields : List Byte) : Served s (s, fields)
  | setReports (e : Byte) : Served s (requestSetReports e s)
  | clearFlags (f c : Byte) : Served s (requestClearFlags f c s)
  | restart (k : Byte) : Served s (requestRestart k s)
  | start (m : Byte) : Served s (requestStart m s)
  | stop : Served s (requestStop s)
  | setMode (m : Byte) : Served s (requestSetMode m s)
  | resume : Served s (requestResume s)
  | setDetect (th st : Byte) (tail gap : Half) : Served s (requestSetDetect th st tail gap s)
  | setScan (count : Byte) (rest : List Byte) : Served s (serveSetScan count rest s)
  | setChannel (c : Byte) : Served s (requestSetChannel c s)
  | survey (c : Byte) (d : Half) : Served s (requestSurvey c d s)
  | declareBeacon (c : Byte) (i a : Half) : Served s (requestDeclareBeacon c i a s)
  | forget (id : Byte) : Served s (requestForget id s)
  | readTracker (id : Byte) : Served s (requestReadTracker id s)
  | setTracking (g b : Half) (r : Byte) (c : Half) (l m : Byte) : Served s (requestSetTracking g b r c l m s)
  | setRules (count : Byte) (rest : List Byte) : Served s (serveSetRules count rest s)
  | armTemplate (m : Option Half) : Served s (requestArmTemplate m s)
  | dropTemplate : Served s (requestDropTemplate s)
  | book (l t : Byte) (len e d : Half) : Served s (requestBook l t len e d s)
  | cancel (l t : Byte) : Served s (requestCancel l t s)
  | seriesOpen (l t : Byte) (p len j : Half) : Served s (requestSeriesOpen l t p len j s)
  | seriesClose (l t : Byte) : Served s (requestSeriesClose l t s)
  | setLanes (a b : Byte) : Served s (requestSetLanes a b s)
  | readBookings (p : Byte) : Served s (requestReadBookings p s)
  | setEscalation (th p : Byte) : Served s (requestSetEscalation th p s)
  | clearFault : Served s (requestClearFault s)

/-- Whatever the kind and the payload: a payload of a length that the kind does not allow reaches no block (R187). -/
theorem serveKind_served (k : RequestKind) (payload : List Byte) (s : State) : Served s (serveKind k payload s) :=
  match k, payload with
  | .ident, [] | .ident, _ :: _ | .status, [] | .status, _ :: _ | .time, [] | .time, _ :: _ => .unchanged _
  | .readChannels, [] | .readChannels, _ :: _ | .ranking, [] | .ranking, _ :: _ => .unchanged _
  | .readRules, [] | .readRules, _ :: _ | .readFault, [] | .readFault, _ :: _ => .unchanged _
  | .setReports, [e] => .setReports e
  | .clearFlags, [f, c] => .clearFlags f c
  | .restart, [k] => .restart k
  | .start, [m] => .start m
  | .stop, [] => .stop
  | .setMode, [m] => .setMode m
  | .resume, [] => .resume
  | .setDetect, [th, st, _, _, _, _] => .setDetect th st _ _
  | .setScan, count :: rest => .setScan count rest
  | .setChannel, [c] => .setChannel c
  | .survey, [c, _, _] => .survey c _
  | .declareBeacon, [c, _, _, _, _] => .declareBeacon c _ _
  | .forget, [id] => .forget id
  | .readTracker, [id] => .readTracker id
  | .setTracking, [_, _, _, _, r, _, _, l, m] => .setTracking _ _ r _ l m
  | .setRules, count :: rest => .setRules count rest
  | .armTemplate, [] => .armTemplate none
  | .armTemplate, [_, _] => .armTemplate (some _)
  | .dropTemplate, [] => .dropTemplate
  | .book, [l, t, _, _, _, _, _, _] => .book l t _ _ _
  | .cancel, [l, t] => .cancel l t
  | .seriesOpen, [l, t, _, _, _, _, _, _] => .seriesOpen l t _ _ _
  | .seriesClose, [l, t] => .seriesClose l t
  | .setLanes, [a, b] => .setLanes a b
  | .readBookings, [p] => .readBookings p
  | .setEscalation, [th, p] => .setEscalation th p
  | .clearFault, [] => .clearFault
  | .stop, _ :: _ | .resume, _ :: _ | .dropTemplate, _ :: _ | .clearFault, _ :: _ => .unchanged _
  | .setScan, [] | .setRules, [] => .unchanged _
  | .setReports, [] | .restart, [] | .start, [] | .setMode, [] | .setChannel, [] | .forget, [] | .readTracker, []
  | .readBookings, [] => .unchanged _
  | .setReports, _ :: _ :: _ | .restart, _ :: _ :: _ | .start, _ :: _ :: _ | .setMode, _ :: _ :: _
  | .setChannel, _ :: _ :: _ | .forget, _ :: _ :: _ | .readTracker, _ :: _ :: _ | .readBookings, _ :: _ :: _ =>
    .unchanged _
  | .clearFlags, [] | .cancel, [] | .seriesClose, [] | .setLanes, [] | .setEscalation, [] => .unchanged _
  | .clearFlags, [_] | .cancel, [_] | .seriesClose, [_] | .setLanes, [_] | .setEscalation, [_] | .armTemplate, [_] =>
    .unchanged _
  | .clearFlags, _ :: _ :: _ :: _ | .cancel, _ :: _ :: _ :: _ | .seriesClose, _ :: _ :: _ :: _
  | .setLanes, _ :: _ :: _ :: _ | .setEscalation, _ :: _ :: _ :: _ | .armTemplate, _ :: _ :: _ :: _ => .unchanged _
  | .survey, [] | .survey, [_] | .survey, [_, _] | .survey, _ :: _ :: _ :: _ :: _ => .unchanged _
  | .declareBeacon, [] | .declareBeacon, [_] | .declareBeacon, [_, _] | .declareBeacon, [_, _, _]
  | .declareBeacon, [_, _, _, _] | .declareBeacon, _ :: _ :: _ :: _ :: _ :: _ :: _ => .unchanged _
  | .setDetect, [] | .setDetect, [_] | .setDetect, [_, _] | .setDetect, [_, _, _] | .setDetect, [_, _, _, _]
  | .setDetect, [_, _, _, _, _] | .setDetect, _ :: _ :: _ :: _ :: _ :: _ :: _ :: _ => .unchanged _
  | .book, [] | .book, [_] | .book, [_, _] | .book, [_, _, _] | .book, [_, _, _, _] | .book, [_, _, _, _, _]
  | .book, [_, _, _, _, _, _] | .book, [_, _, _, _, _, _, _]
  | .book, _ :: _ :: _ :: _ :: _ :: _ :: _ :: _ :: _ :: _ => .unchanged _
  | .seriesOpen, [] | .seriesOpen, [_] | .seriesOpen, [_, _] | .seriesOpen, [_, _, _] | .seriesOpen, [_, _, _, _]
  | .seriesOpen, [_, _, _, _, _] | .seriesOpen, [_, _, _, _, _, _] | .seriesOpen, [_, _, _, _, _, _, _]
  | .seriesOpen, _ :: _ :: _ :: _ :: _ :: _ :: _ :: _ :: _ :: _ => .unchanged _
  | .setTracking, [] | .setTracking, [_] | .setTracking, [_, _] | .setTracking, [_, _, _] | .setTracking, [_, _, _, _]
  | .setTracking, [_, _, _, _, _] | .setTracking, [_, _, _, _, _, _] | .setTracking, [_, _, _, _, _, _, _]
  | .setTracking, [_, _, _, _, _, _, _, _]
  | .setTracking, _ :: _ :: _ :: _ :: _ :: _ :: _ :: _ :: _ :: _ :: _ => .unchanged _

theorem serve_served (f : Frame) (s : State) : Served s (serve f s) := by
  unfold serve
  split
  · exact serveKind_served _ _ s
  · exact .unchanged _

/-! ### Requests -/

/-- A check that refuses the request leaves the state as it is (R188). -/
theorem refuse_or_boundsKept {b : Prop} [Decidable b] {status : Byte} {s : State} {a : Answer} (h : BoundsKept s a.1) :
    BoundsKept s (if b then refuse status s else a).1 := by
  split
  · exact BoundsKept.refl s
  · exact h

/-- A count cleared or left alone stays within its byte (R192). -/
theorem requestClearFlags_boundsKept (flags count : Byte) (s : State) :
    BoundsKept s (requestClearFlags flags count s).1 := by
  unfold requestClearFlags
  split
  · exact BoundsKept.refl s
  · refine { BoundsKept.refl s with link := ?_ }
    rintro ⟨inbox, replies, reports, errors, before⟩
    refine ⟨inbox, replies, reports, ?_, ?_⟩ <;> dsimp only [State.withLink_link] <;> split <;> omega

theorem requestRestart_boundsKept (kind : Byte) (s : State) : BoundsKept s (requestRestart kind s).1 := by
  unfold requestRestart
  split
  · exact withControl_boundsKept s _
  · split
    · exact withControl_boundsKept s _
    · exact BoundsKept.refl s

theorem startChecked_boundsKept (m : Mode) (s : State) : BoundsKept s (startChecked m s).1 :=
  refuse_or_boundsKept (refuse_or_boundsKept
    (((withControl_boundsKept s _).trans (beginSequence_boundsKept (s.setMode m))).trans (reform_boundsKept _)))

theorem requestStart_boundsKept (mode : Byte) (s : State) : BoundsKept s (requestStart mode s).1 := by
  unfold requestStart
  split
  · exact startChecked_boundsKept _ s
  · split
    · exact startChecked_boundsKept _ s
    · exact BoundsKept.refl s

/-- STOP replaces records and counts of none of the three blocks but by an ABORTED report (R168). -/
theorem stopRunning_boundsKept (s : State) : BoundsKept s (stopRunning s) :=
  { BoundsKept.refl s with
    link := (stopRunning_air s).linkBounded
    records := .of_eq (by rw [stopRunning, abortSurvey_eq]; rfl)
    escalation := .of_eq (by rw [stopRunning, abortSurvey_eq]; rfl) }

theorem changeByRequest_boundsKept (m : Mode) (s : State) : BoundsKept s (changeByRequest m s).1 :=
  ((changeMode_boundsKept m s).trans (reform_boundsKept _)).trans (withControl_boundsKept _ _)

theorem requestSetMode_boundsKept (mode : Byte) (s : State) : BoundsKept s (requestSetMode mode s).1 := by
  unfold requestSetMode
  split
  · exact BoundsKept.refl s
  · refine refuse_or_boundsKept ?_
    split
    · exact withControl_boundsKept s _
    · split
      · exact refuse_or_boundsKept (refuse_or_boundsKept (changeByRequest_boundsKept _ s))
      · exact changeByRequest_boundsKept _ s

theorem requestResume_boundsKept (s : State) : BoundsKept s (requestResume s).1 := by
  unfold requestResume
  split
  · exact changeByRequest_boundsKept _ s
  · exact BoundsKept.refl s

theorem requestSetDetect_boundsKept (th st : Byte) (tail gap : Half) (s : State) :
    BoundsKept s (requestSetDetect th st tail gap s).1 := by
  refine refuse_or_boundsKept ?_
  split
  · exact BoundsKept.refl s
  · exact withSense_boundsKept s _

theorem serveSetScan_boundsKept (count : Byte) (rest : List Byte) (s : State) :
    BoundsKept s (serveSetScan count rest s).1 := by
  unfold serveSetScan
  split
  · split
    · refine refuse_or_boundsKept ?_
      split
      · exact BoundsKept.refl s
      · exact withDwells_boundsKept rfl
    · exact BoundsKept.refl s
  · exact BoundsKept.refl s

theorem requestSetChannel_boundsKept (c : Byte) (s : State) : BoundsKept s (requestSetChannel c s).1 := by
  refine refuse_or_boundsKept ?_
  split
  · exact BoundsKept.refl s
  · exact (changeChannel_boundsKept _ s).trans (reform_boundsKept _)

theorem requestSurvey_boundsKept (c : Byte) (d : Half) (s : State) : BoundsKept s (requestSurvey c d s).1 :=
  refuse_or_boundsKept (refuse_or_boundsKept (refuse_or_boundsKept (withDwells_boundsKept rfl)))

theorem requestDeclareBeacon_boundsKept (c : Byte) (i a : Half) (s : State) :
    BoundsKept s (requestDeclareBeacon c i a s).1 := by
  refine refuse_or_boundsKept (refuse_or_boundsKept ?_)
  split
  · exact BoundsKept.refl s
  · exact (((allocate_trackingStep ‹_›).trans (setAndReport _ _ _ _ _ _ _ _)).boundsKept.trans
      (planChange_boundsKept _)).trans (reform_boundsKept _)

theorem requestForget_boundsKept (id : Byte) (s : State) : BoundsKept s (requestForget id s).1 :=
  refuse_or_boundsKept (refuse_or_boundsKept
    (((freeTracker_trackingStep _ _ s).boundsKept.trans (planChangeIf_plannerStep _ _).boundsKept).trans
      (reform_boundsKept _)))

theorem applyTracking_boundsKept (t : TrackSettings) (s : State) : BoundsKept s (applyTracking t s) :=
  ((withTracking_boundsKept s _).trans (applyMissLimit_trackingStep _).boundsKept).trans (planChange_boundsKept _)

theorem requestSetTracking_boundsKept (g b : Half) (r : Byte) (c : Half) (l m : Byte) (s : State) :
    BoundsKept s (requestSetTracking g b r c l m s).1 :=
  refuse_or_boundsKept ((applyTracking_boundsKept _ s).trans (reform_boundsKept _))

theorem serveSetRules_boundsKept (count : Byte) (rest : List Byte) (s : State) :
    BoundsKept s (serveSetRules count rest s).1 := by
  unfold serveSetRules
  split
  · split
    · refine refuse_or_boundsKept ?_
      split
      · exact BoundsKept.refl s
      · exact ((withPlanner_boundsKept s _).trans (planChange_boundsKept (replaceRules _ _ s))).trans
          (reform_boundsKept _)
    · exact BoundsKept.refl s
  · exact BoundsKept.refl s

theorem requestArmTemplate_boundsKept (m : Option Half) (s : State) : BoundsKept s (requestArmTemplate m s).1 := by
  refine refuse_or_boundsKept (refuse_or_boundsKept ?_)
  split
  · exact BoundsKept.refl s
  · exact (withPlanner_boundsKept s _).trans (planChange_boundsKept (s.withTemplate _))

theorem requestDropTemplate_boundsKept (s : State) : BoundsKept s (requestDropTemplate s).1 :=
  refuse_or_boundsKept (refuse_or_boundsKept (withPlanner_boundsKept s _))

theorem requestBook_boundsKept (l tag : Byte) (len e d : Half) (s : State) :
    BoundsKept s (requestBook l tag len e d s).1 := by
  unfold requestBook
  split
  · exact BoundsKept.refl s
  · refine refuse_or_boundsKept (refuse_or_boundsKept (refuse_or_boundsKept (refuse_or_boundsKept ?_)))
    unfold bookSearch
    dsimp only
    split
    · exact withPlanner_boundsKept s _
    · split
      · exact BoundsKept.refl s
      · exact BoundsKept.refl s

theorem requestCancel_boundsKept (l tag : Byte) (s : State) : BoundsKept s (requestCancel l tag s).1 := by
  unfold requestCancel
  split
  · exact BoundsKept.refl s
  · refine refuse_or_boundsKept ?_
    split
    · exact BoundsKept.refl s
    · exact (withPlanner_boundsKept s _).trans (reform_boundsKept (dropOneShot _ _ s))

theorem requestSeriesOpen_boundsKept (l tag : Byte) (p len j : Half) (s : State) :
    BoundsKept s (requestSeriesOpen l tag p len j s).1 := by
  unfold requestSeriesOpen
  split
  · exact BoundsKept.refl s
  · refine refuse_or_boundsKept (refuse_or_boundsKept (refuse_or_boundsKept (refuse_or_boundsKept
      (refuse_or_boundsKept ?_))))
    split
    · exact BoundsKept.refl s
    · unfold seriesSearch
      split
      · exact { BoundsKept.refl s with }
      · exact BoundsKept.refl s

theorem requestSeriesClose_boundsKept (l tag : Byte) (s : State) : BoundsKept s (requestSeriesClose l tag s).1 := by
  unfold requestSeriesClose
  split
  · exact BoundsKept.refl s
  · refine refuse_or_boundsKept ?_
    split
    · exact BoundsKept.refl s
    · exact (withPlanner_boundsKept s _).trans (reform_boundsKept (dropSeries _ s))

/-- The threshold is clamped to 1 to 15 (R163). -/
theorem requestSetEscalation_boundsKept (th p : Byte) (s : State) : BoundsKept s (requestSetEscalation th p s).1 := by
  unfold requestSetEscalation
  split
  · exact BoundsKept.refl s
  · refine { BoundsKept.refl s with escalation := ?_ }
    rintro ⟨score, _, _, further⟩
    rw [clampNat_eq _ _ _ (by decide)]
    exact ⟨score, Nat.le_max_left _ _, by dsimp only [State.withEscalation_escalation]; omega, further⟩

/-- An emptied fault record has no further count (R162). -/
theorem requestClearFault_boundsKept (s : State) : BoundsKept s (requestClearFault s).1 where
  link := id
  records := id
  escalation := fun ⟨score, low, high, _⟩ => ⟨score, low, high, fun _ filled => nomatch filled⟩

theorem requestReadBookings_boundsKept (p : Byte) (s : State) : BoundsKept s (requestReadBookings p s).1 := by
  unfold requestReadBookings
  split
  · exact BoundsKept.refl s
  · split
    · exact BoundsKept.refl s
    · exact BoundsKept.refl s

/-- Whatever a taken request answers, its block keeps the bounds. -/
theorem Served.boundsKept {s : State} {a : Answer} (h : Served s a) : BoundsKept s a.1 := by
  cases h with
  | unchanged => exact BoundsKept.refl s
  | setReports e => exact { BoundsKept.refl s with }
  | clearFlags f c => exact requestClearFlags_boundsKept f c s
  | restart k => exact requestRestart_boundsKept k s
  | start m => exact requestStart_boundsKept m s
  | stop => exact refuse_or_boundsKept (stopRunning_boundsKept s)
  | setMode m => exact requestSetMode_boundsKept m s
  | resume => exact requestResume_boundsKept s
  | setDetect th st tail gap => exact requestSetDetect_boundsKept th st tail gap s
  | setScan count rest => exact serveSetScan_boundsKept count rest s
  | setChannel c => exact requestSetChannel_boundsKept c s
  | survey c d => exact requestSurvey_boundsKept c d s
  | declareBeacon c i a => exact requestDeclareBeacon_boundsKept c i a s
  | forget id => exact requestForget_boundsKept id s
  | readTracker id => exact refuse_or_boundsKept (refuse_or_boundsKept (BoundsKept.refl s))
  | setTracking g b r c l m => exact requestSetTracking_boundsKept g b r c l m s
  | setRules count rest => exact serveSetRules_boundsKept count rest s
  | armTemplate m => exact requestArmTemplate_boundsKept m s
  | dropTemplate => exact requestDropTemplate_boundsKept s
  | book l t len e d => exact requestBook_boundsKept l t len e d s
  | cancel l t => exact requestCancel_boundsKept l t s
  | seriesOpen l t p len j => exact requestSeriesOpen_boundsKept l t p len j s
  | seriesClose l t => exact requestSeriesClose_boundsKept l t s
  | setLanes a b => exact refuse_or_boundsKept (withPlanner_boundsKept s _)
  | readBookings p => exact requestReadBookings_boundsKept p s
  | setEscalation th p => exact requestSetEscalation_boundsKept th p s
  | clearFault => exact requestClearFault_boundsKept s

end Sys2Proof.Machine
end

section
/-! PROOFS. Queues, counts and channel records within their fields: the link controller, restarts and every command. -/

namespace Sys2Proof.Machine

/-! ### The link controller (R186 to R189, R192) -/

/-- A change of the link controller alone. -/
theorem withLink_boundsKept {s : State} {l : Link} (h : LinkBounded s → LinkBounded (s.withLink l)) :
    BoundsKept s (s.withLink l) :=
  { BoundsKept.refl s with link := h }

/-- A frame that leaves its queue makes room (R189). -/
theorem pump_boundsKept (s : State) : BoundsKept s (pump s) := by
  unfold pump
  split
  · exact BoundsKept.refl s
  · split
    · rename_i queue
      refine withLink_boundsKept ?_
      rintro ⟨inbox, replies, reports, counts⟩
      rw [queue, List.length_cons] at replies
      exact ⟨inbox, Nat.le_of_succ_le replies, reports, counts⟩
    · split
      · rename_i queue
        refine withLink_boundsKept ?_
        rintro ⟨inbox, replies, reports, counts⟩
        rw [queue, List.length_cons] at reports
        exact ⟨inbox, replies, Nat.le_of_succ_le reports, counts⟩
      · exact BoundsKept.refl s

/-- A reply placed where fewer than 4 wait (R186, R187). -/
theorem placeReply_boundsKept (f : Frame) {s : State} (room : s.link.replies.length < 4) :
    BoundsKept s (placeReply f s) := by
  refine withLink_boundsKept ?_
  rintro ⟨inbox, _, rest⟩
  refine ⟨inbox, ?_, rest⟩
  rw [State.withLink_link, List.length_append, List.length_singleton]
  exact room

/-- The link error count is held at 255 (R192). -/
theorem countLinkError_boundsKept (s : State) : BoundsKept s (countLinkError s) := by
  refine withLink_boundsKept ?_
  rintro ⟨inbox, replies, reports, _, before⟩
  exact ⟨inbox, replies, reports, saturate_le _ _, before⟩

theorem placeOrDrop_boundsKept (f : Frame) (s : State) : BoundsKept s (placeOrDrop f s) := by
  unfold placeOrDrop
  split
  · exact placeReply_boundsKept f ‹_›
  · exact countLinkError_boundsKept s

/-- A request is taken while at most 2 replies wait, and its block leaves as many (R187). -/
theorem takeFrame_boundsKept (f : Frame) {s : State} (room : s.link.replies.length ≤ 2) :
    BoundsKept s (takeFrame f s) := by
  have replies := (serve_requestStep f s).replyCount
  exact ((serve_served f s).boundsKept.trans (placeReply_boundsKept _ (by omega))).trans (pump_boundsKept _)

/-- A frame taken out of the inbox makes room. -/
theorem popInbox_boundsKept {s : State} {f : Frame} {rest : List Frame} (h : s.link.inbox = f :: rest) :
    BoundsKept s (s.withLink { s.link with inbox := rest }) := by
  refine withLink_boundsKept ?_
  rintro ⟨inbox, others⟩
  rw [h, List.length_cons] at inbox
  exact ⟨Nat.le_of_succ_le inbox, others⟩

theorem takeFrames_boundsKept (n : Nat) (s : State) : BoundsKept s (takeFrames n s) := by
  induction n generalizing s with
  | zero => exact BoundsKept.refl s
  | succ n ih =>
    unfold takeFrames
    split
    · exact BoundsKept.refl s
    · rename_i f rest inbox
      split
      · rename_i may
        have room : s.link.replies.length ≤ 2 := of_decide_eq_true (Bool.and_eq_true_iff.1 may).2
        exact ((popInbox_boundsKept inbox).trans (takeFrame_boundsKept f room)).trans (ih _)
      · exact BoundsKept.refl s

theorem serveInbox_boundsKept (s : State) : BoundsKept s (serveInbox s) := takeFrames_boundsKept _ s

/-- A frame joins the inbox only where fewer than 4 wait (R186). -/
theorem acceptFrame_boundsKept (f : Frame) (s : State) : BoundsKept s (acceptFrame f s) := by
  unfold acceptFrame
  split
  · rename_i room
    refine BoundsKept.trans (withLink_boundsKept ?_) (serveInbox_boundsKept _)
    rintro ⟨_, others⟩
    refine ⟨?_, others⟩
    rw [State.withLink_link, List.length_append, List.length_singleton]
    exact room
  · exact (placeOrDrop_boundsKept _ s).trans (pump_boundsKept _)

theorem requestArrives_boundsKept (f : Frame) (s : State) : BoundsKept s (requestArrives f s) := by
  unfold requestArrives
  split
  · exact BoundsKept.refl s
  · exact acceptFrame_boundsKept f s

theorem rejectBadCrc_boundsKept (f : Frame) (s : State) : BoundsKept s (rejectBadCrc f s) := by
  refine (countLinkError_boundsKept s).trans ?_
  unfold rejectBadCrc
  dsimp only
  split
  · exact (placeReply_boundsKept _ ‹_›).trans (pump_boundsKept _)
  · exact BoundsKept.refl _

theorem judge_boundsKept (f : Frame) (crc : Byte) (s : State) : BoundsKept s (judge f crc s) := by
  unfold judge
  split
  · exact BoundsKept.refl s
  · split
    · exact rejectBadCrc_boundsKept f s
    · split
      · exact (placeOrDrop_boundsKept _ s).trans (pump_boundsKept _)
      · exact acceptFrame_boundsKept f s

theorem withReceiver_boundsKept (s : State) (r : Receiver) : BoundsKept s (s.withReceiver r) := withLink_boundsKept id

theorem huntAgain_boundsKept (s : State) : BoundsKept s (huntAgain s) := withReceiver_boundsKept s .hunting

theorem judgeComplete_boundsKept (s : State) : BoundsKept s (judgeComplete s) := by
  unfold judgeComplete
  split
  · exact (huntAgain_boundsKept s).trans (judge_boundsKept _ _ _)
  · exact BoundsKept.refl s

theorem dropFrame_boundsKept (s : State) : BoundsKept s (dropFrame s) :=
  (huntAgain_boundsKept s).trans (countLinkError_boundsKept _)

theorem dropIfReceiving_boundsKept (s : State) : BoundsKept s (dropIfReceiving s) := by
  unfold dropIfReceiving
  split
  · exact BoundsKept.refl s
  all_goals exact dropFrame_boundsKept s

theorem receiveByte_boundsKept (b : Byte) (s : State) : BoundsKept s (receiveByte b s) := by
  unfold receiveByte
  split
  case h_1 =>
    split
    · exact withReceiver_boundsKept s _
    · exact BoundsKept.refl s
  case h_2 =>
    split
    · exact dropFrame_boundsKept s
    · exact withReceiver_boundsKept s _
  case h_3 => exact withReceiver_boundsKept s _
  case h_4 => exact withReceiver_boundsKept s _
  case h_5 => exact BoundsKept.refl s

theorem takeCharacter_boundsKept (b : Byte) (stopHigh : Bool) (s : State) :
    BoundsKept s (takeCharacter b stopHigh s) := by
  unfold takeCharacter
  split
  · exact BoundsKept.refl s
  · split
    · exact (judgeComplete_boundsKept s).trans (receiveByte_boundsKept b _)
    · exact ((judgeComplete_boundsKept s).trans (dropIfReceiving_boundsKept _)).trans (withLink_boundsKept id)

theorem lowLevelTimeout_boundsKept (s : State) : BoundsKept s (lowLevelTimeout s) :=
  ((dropIfReceiving_boundsKept s).trans (huntAgain_boundsKept _)).trans (withLink_boundsKept id)

theorem rxdHighAgain_boundsKept (s : State) : BoundsKept s (rxdHighAgain s) := withLink_boundsKept id

/-! ### Restarts (R57, R164, R178, R195) -/

/-- A warm restart empties the queues and the score, and keeps the counts and the channel records. -/
theorem warmRestart_boundsKept (c : ModeCause) (s : State) : BoundsKept s (warmRestart c s) := by
  refine BoundsKept.trans ?_ (handReport_boundsKept _ _ _)
  exact
    { link := fun ⟨_, _, _, counts⟩ => ⟨Nat.zero_le _, Nat.zero_le _, Nat.zero_le _, counts⟩
      escalation := fun ⟨_, bounds⟩ => ⟨Nat.zero_le _, bounds⟩
      records := id }

/-- A link controller with nothing waiting and nothing counted, and the two other blocks as a cold start leaves them. -/
theorem cold_boundsKept (s : State) {t : State} (hinbox : t.link.inbox = []) (hreplies : t.link.replies = [])
    (hreports : t.link.reports = []) (herrors : t.link.errors = 0) (hbefore : t.link.errorsBefore = 0)
    (hescalation : t.escalation = Escalation.cold) (hrecords : t.dwells.records = Dwells.cold.records) :
    BoundsKept s t where
  link := fun _ => by simp [LinkBounded, hinbox, hreplies, hreports, herrors, hbefore]
  escalation := fun _ => by simp [EscalationBounded, hescalation, Escalation.cold]
  records := fun _ => by simp [RecordsSound, hrecords, Dwells.cold, ChannelRecord.unvisited]

theorem coldRestart_boundsKept (c : ModeCause) (s : State) : BoundsKept s (coldRestart c s) :=
  (cold_boundsKept s rfl rfl rfl rfl rfl rfl rfl).trans (handReport_boundsKept _ _ _)

theorem enterReset_boundsKept (why : ResetHold) (s : State) : BoundsKept s (enterReset why s) :=
  cold_boundsKept s rfl rfl rfl rfl rfl rfl rfl

theorem leaveReset_boundsKept (rxd txon : Bool) (s : State) : BoundsKept s (leaveReset rxd txon s) := by
  unfold leaveReset
  split
  · exact BoundsKept.refl s
  · refine BoundsKept.trans ?_ (handReport_boundsKept _ _ _)
    refine { BoundsKept.refl s with link := ?_ }
    cases rxd <;> exact id

theorem markedRestart_boundsKept (kind : RestartKind) (s : State) : BoundsKept s (markedRestart kind s) := by
  cases kind with
  | warm => exact warmRestart_boundsKept _ s
  | cold => exact coldRestart_boundsKept _ s

theorem breakRestart_boundsKept (s : State) : BoundsKept s (breakRestart s) := by
  have marked : BoundsKept s (markBreakTaken s) := withLink_boundsKept id
  unfold breakRestart
  split
  · exact marked.trans (coldRestart_boundsKept _ _)
  · exact marked.trans (warmRestart_boundsKept _ _)
  · exact marked.trans (warmRestart_boundsKept _ _)

theorem frameSent_boundsKept (s : State) : BoundsKept s (frameSent s) := by
  unfold frameSent
  split
  · exact (markedRestart_boundsKept _ s).trans (pump_boundsKept _)
  · have freed : BoundsKept s (freeTransmitter s) := withLink_boundsKept id
    exact (freed.trans (pump_boundsKept _)).trans (serveInbox_boundsKept _)

/-! ### Events of the blocks -/

theorem settle_boundsKept (s : State) : BoundsKept s (settle s) := (reform_boundsKept s).trans (pump_boundsKept _)

theorem endBlanking_boundsKept (s : State) : BoundsKept s (endBlanking s) := by
  by_cases h : s.sense.tuning = .settled
  · rw [endBlanking_settled h]
    exact withSense_boundsKept s _
  · rw [endBlanking_unsettled h]
    exact withSense_boundsKept s _

theorem startTail_boundsKept (s : State) : BoundsKept s (startTail s) := by
  unfold startTail
  split
  · exact BoundsKept.refl s
  · exact BoundsKept.refl s
  · split
    · exact endBlanking_boundsKept s
    · exact withSense_boundsKept s _

theorem endSettling_boundsKept (s : State) : BoundsKept s (endSettling s) := by
  rw [endSettling_eq]
  exact withSense_boundsKept s _

/-- The score drains downward (R153). -/
theorem drainScore_boundsKept (s : State) : BoundsKept s (drainScore s) where
  link := id
  records := id
  escalation := fun ⟨score, bounds⟩ => ⟨(Nat.sub_le _ _).trans score, bounds⟩

theorem releaseAndSweep_boundsKept (s : State) : BoundsKept s (sweepPending (releaseHeld s)) :=
  (releaseHeld_boundsKept s).trans (sweepPending_boundsKept _)

theorem noticed_boundsKept {f : State → Noticed} (step : ∀ s, TrackingStep s (f s).1) (s : State) :
    BoundsKept s (noticed f s) := (noticed_trackingStep step s).boundsKept

theorem takeCommitPoint_boundsKept (s : State) : BoundsKept s (takeCommitPoint s) := by
  unfold takeCommitPoint
  split
  · exact (recheck_plannerStep _ s).boundsKept
  · exact BoundsKept.refl s

theorem takeWindowStart_boundsKept (s : State) : BoundsKept s (takeWindowStart s) := by
  unfold takeWindowStart
  split
  · exact (openEntry_plannerStep _ s).boundsKept
  · exact BoundsKept.refl s

theorem takeWindowEnd_boundsKept (s : State) : BoundsKept s (takeWindowEnd s) := by
  unfold takeWindowEnd
  split
  · exact (removeEntry_plannerStep _ s).boundsKept
  · exact BoundsKept.refl s

theorem takeRetry_boundsKept (s : State) : BoundsKept s (takeRetry s) := by
  unfold takeRetry
  split
  · exact (rebase_plannerStep _ _ s).boundsKept
  · exact BoundsKept.refl s

/-! ### Every command, and the idle step -/

/-- A command taken only out of reset whose effect keeps the bounds. -/
theorem outOfReset_boundsKept {f : State → State} (h : ∀ s, BoundsKept s (f s)) (s : State) :
    ∃ t, outOfReset f s = .next t ∧ BoundsKept s t := outOfReset_answers BoundsKept.refl h s

/-- An effect taken when it is due. -/
theorem due_boundsKept {f : State → State} (h : ∀ s, BoundsKept s (f s)) (due : State → Bool) (s : State) :
    ∃ t, outOfReset (whenDue due f) s = .next t ∧ BoundsKept s t :=
  outOfReset_boundsKept (whenDue_rel BoundsKept.refl h due) s

/-- An event after which the lines are re-formed and the transmitter is offered what waits. -/
theorem event_boundsKept {f : State → State} (h : ∀ s, BoundsKept s (f s)) (due : State → Bool) (s : State) :
    ∃ t, event due f s = .next t ∧ BoundsKept s t :=
  due_boundsKept (fun s => (h s).trans (settle_boundsKept _)) due s

/-- An effect after which the transmitter is offered what waits (R189). -/
theorem pumped_boundsKept {f : State → State} (h : ∀ s, BoundsKept s (f s)) (s : State) : BoundsKept s (pump (f s)) :=
  (h s).trans (pump_boundsKept _)

/-- Every command answers a state that lies within its fields where the state before did. -/
theorem exec_boundsKept (c : Instr) (s : State) : ∃ t, exec c s = .next t ∧ BoundsKept s t := by
  cases hc : requestOf c with
  | some f =>
    obtain ⟨k, ticket, payload, _, arrives⟩ := requestOf_arrival hc
    rw [arrives]
    exact outOfReset_boundsKept (requestArrives_boundsKept _) s
  | none =>
    cases c
    case resetNLow => exact ⟨_, rfl, enterReset_boundsKept _ s⟩
    case powerUp => exact ⟨_, rfl, enterReset_boundsKept _ s⟩
    case leaveReset rxd txon =>
      refine ⟨_, rfl, ?_⟩
      split
      · exact pumped_boundsKept (leaveReset_boundsKept rxd txon) s
      · exact BoundsKept.refl s
    case characterReceived b stopHigh => exact outOfReset_boundsKept (takeCharacter_boundsKept b stopHigh) s
    case frameComplete => exact outOfReset_boundsKept judgeComplete_boundsKept s
    case frameTimeout => exact due_boundsKept dropFrame_boundsKept _ s
    case rxdLowTimeout => exact due_boundsKept lowLevelTimeout_boundsKept _ s
    case rxdBreak => exact due_boundsKept (pumped_boundsKept breakRestart_boundsKept) _ s
    case frameTransmitted => exact due_boundsKept frameSent_boundsKept _ s
    case rxdReturnsHigh => exact outOfReset_boundsKept rxdHighAgain_boundsKept s
    case txonRise => exact outOfReset_boundsKept (fun s => (startBlanking_boundsKept s).trans (settle_boundsKept _)) s
    case txonFall => exact outOfReset_boundsKept startTail_boundsKept s
    case blankingEnd => exact due_boundsKept endBlanking_boundsKept _ s
    case settlingEnd => exact due_boundsKept endSettling_boundsKept _ s
    case energyReading level preamble => exact event_boundsKept (takeReading_boundsKept level preamble) _ s
    case longBurstCut => exact event_boundsKept cutLongBurst_boundsKept _ s
    case gapEndRelease => exact event_boundsKept releaseAndSweep_boundsKept _ s
    case spanLimitRelease => exact event_boundsKept releaseAndSweep_boundsKept _ s
    case scoreDrain => exact due_boundsKept drainScore_boundsKept _ s
    case dwellEnd => exact event_boundsKept endDwell_boundsKept _ s
    case observedSinceAdvance => exact due_boundsKept (fun s => withSense_boundsKept s _) _ s
    case riseTest id => exact event_boundsKept (noticed_boundsKept (decideRise_trackingStep id)) _ s
    case candidateExpiry id => exact event_boundsKept (fun s => (freeTracker_trackingStep id .age s).boundsKept) _ s
    case trackerAgeLimit id => exact event_boundsKept (noticed_boundsKept (ageTracker_trackingStep id)) _ s
    case dormantAgeLimit id => exact event_boundsKept (noticed_boundsKept (ageDormant_trackingStep id)) _ s
    case guardStep id => exact due_boundsKept reform_boundsKept _ s
    case windowEdge => exact outOfReset_boundsKept reform_boundsKept s
    case templateAnchorAdvance => exact due_boundsKept (fun s => withPlanner_boundsKept s _) _ s
    case commitPoint => exact due_boundsKept (pumped_boundsKept takeCommitPoint_boundsKept) _ s
    case windowStart => exact event_boundsKept takeWindowStart_boundsKept _ s
    case windowEnd => exact event_boundsKept takeWindowEnd_boundsKept _ s
    case seriesRetry => exact due_boundsKept (pumped_boundsKept takeRetry_boundsKept) _ s
    case armTemplate t m => cases m <;> cases hc
    all_goals cases hc

/-- What the next instant finds as the link error count is the count itself, and a dwell's observed time is no record
(R45, R192). -/
theorem tick_boundsKept (s : State) : BoundsKept s (tick s) where
  link := fun ⟨inbox, replies, reports, errors, _⟩ => ⟨inbox, replies, reports, errors, errors⟩
  escalation := id
  records := .of_eq (by rw [tick_dwells, Dwells.observe]; split <;> rfl)

theorem idle_boundsKept (s : State) : BoundsKept s (idle s) := by
  unfold idle
  split
  · exact BoundsKept.refl s
  · split
    · exact tick_boundsKept s
    · exact { BoundsKept.refl s with }

end Sys2Proof.Machine

section
open Sys2Proof Sys2Proof.Machine

/-- Settles O57: by the command at the front of the queue, or the idle step. -/
theorem stepKeepsCountsWithinTheirFields : Obligations.StepKeepsCountsWithinTheirFields := by
  intro s t link escalation records stepped
  have kept : BoundsKept s t := by
    unfold step at stepped
    split at stepped
    · rename_i c cs _
      obtain ⟨u, answers, kept⟩ := exec_boundsKept c (s.withPending cs)
      obtain rfl : u = t := by rw [answers] at stepped; exact Host.Outcome.next.inj stepped
      have waiting : BoundsKept s (s.withPending cs) := { BoundsKept.refl s with }
      exact waiting.trans kept
    · obtain rfl := Host.Outcome.next.inj stepped
      exact idle_boundsKept s
  exact ⟨kept.link link, kept.escalation escalation, kept.records records⟩
end

end

section
/-! PROOFS. SET_SCAN, SURVEY, READ_CHANNELS and RANKING. -/

namespace Sys2Proof.Machine

/-! ### SET_SCAN (R36) -/

theorem isChannel_iff (n : Nat) : isChannel n = true ↔ 1 ≤ n ∧ n ≤ 13 := decide_eq_true_iff

theorem not_isChannel {n : Nat} (h : n < 1 ∨ 13 < n) : isChannel n = false := decide_eq_false (by omega)

/-- A well-formed scan list (R36). -/
theorem scanListGood_iff (cs : List Byte) :
    scanListGood cs = true ↔ cs.length ≤ 13 ∧ (∀ c ∈ cs, 1 ≤ c.toNat ∧ c.toNat ≤ 13) ∧ cs.Nodup := by
  simp only [scanListGood, Bool.and_eq_true, decide_eq_true_eq, List.all_eq_true, isChannel_iff, and_assoc]

/-- An interleave byte names one of the two interleaves (R36). -/
theorem Interleave.ofByte_eq (b : Byte) :
    Interleave.ofByte b = if b.toNat ≤ 1 then some (if b = 0 then .alternate else .sparse) else none := by
  revert b
  decide

section
variable {cs : List Byte} {i : Byte} {o f : Half} (m : Half) (s : State)

/-- A malformed list, time code or interleave byte refuses the request. -/
theorem requestSetScan_bad (bad : 13 < cs.length ∨ (∃ c ∈ cs, c.toNat < 1 ∨ 13 < c.toNat) ∨ ¬ cs.Nodup ∨
    1 < i.toNat ∨ o.getLsbD 15 = true ∨ f.getLsbD 15 = true) :
    requestSetScan cs i o f m s = refuse stBadArg s := by
  have list (malformed : ¬ (cs.length ≤ 13 ∧ (∀ c ∈ cs, 1 ≤ c.toNat ∧ c.toNat ≤ 13) ∧ cs.Nodup)) :
      requestSetScan cs i o f m s = refuse stBadArg s := by
    rw [← scanListGood_iff, Bool.not_eq_true] at malformed
    rw [requestSetScan, malformed]
    rfl
  rcases bad with long | ⟨c, mem, outside⟩ | twice | byte | time | time
  · exact list fun good => absurd good.1 (Nat.not_le.2 long)
  · exact list fun good => absurd (good.2.1 c mem) (by omega)
  · exact list fun good => absurd good.2.2 twice
  · unfold requestSetScan
    rw [Interleave.ofByte_eq, if_neg (Nat.not_le.2 byte)]
    exact ite_self _
  · rw [requestSetScan, timeCodeBad, time, Bool.or_true, Bool.true_or, if_pos rfl]
  · rw [requestSetScan, timeCodeBad, timeCodeBad, time, Bool.or_true, if_pos rfl]

/-- Otherwise the clamped plan becomes the pending plan, and the reply carries its lengths and margin. -/
theorem requestSetScan_good (list : scanListGood cs = true) (byte : i.toNat ≤ 1) (ho : o.getLsbD 15 = false)
    (hf : f.getLsbD 15 = false) {p : ScanPlan}
    (plan : p = scanPlan cs (if i = 0 then .alternate else .sparse) o f m) :
    requestSetScan cs i o f m s = (s.withDwells { s.dwells with pendingPlan := some p },
      okOrClamped (scanClamped o f m p)
        :: timeCodeField p.operatingLength ++ timeCodeField p.offChannelLength ++ le16n p.margin) := by
  rw [requestSetScan, list, timeCodeBad, timeCodeBad, ho, hf, Interleave.ofByte_eq, if_pos byte, plan]
  rfl

end

/-- The clamped plan, as a maximum of a minimum. -/
theorem scanPlan_eq (cs : List Byte) (i : Interleave) (o f m : Half) :
    scanPlan cs i o f m =
      { channels := cs.map BitVec.toNat, interleave := i
        operatingLength := max 50000 (min 1000000 (timeCodeValue o))
        offChannelLength := max 20000 (min 200000 (timeCodeValue f)), margin := min 1000 m.toNat } := by
  rw [scanPlan, clampNat_eq _ _ _ (by decide), clampNat_eq _ _ _ (by decide), clampNat_eq _ _ _ (by decide),
    Nat.zero_max]

/-- A status that tells whether a proposition fails: OK when nothing was clamped. -/
theorem okOrClamped_not (p : Prop) [Decidable p] : okOrClamped (decide ¬ p) = if p then 0x00 else 0x01 := by
  by_cases h : p <;> simp [h, okOrClamped, stOk, stOkClamped]

theorem scanClamped_eq (o f m : Half) (p : ScanPlan) :
    scanClamped o f m p = decide (¬ (p.operatingLength = timeCodeValue o ∧ p.offChannelLength = timeCodeValue f
      ∧ p.margin = m.toNat)) :=
  decide_eq_decide.2 (by tauto)

/-! ### SURVEY (R52) -/

section
variable {c : Byte} {d : Half} {s : State}

theorem requestSurvey_bad (bad : c.toNat < 1 ∨ 13 < c.toNat ∨ d.getLsbD 15 = true) :
    requestSurvey c d s = refuse stBadArg s := by
  rcases bad with low | high | time
  · rw [requestSurvey, not_isChannel (.inl low)]
    rfl
  · rw [requestSurvey, not_isChannel (.inr high)]
    rfl
  · rw [requestSurvey, timeCodeBad, time, Bool.or_true, if_pos rfl]

/-- The checks of SURVEY after its arguments, in order, and the survey taken (R52). -/
theorem requestSurvey_good (low : 1 ≤ c.toNat) (high : c.toNat ≤ 13) (time : d.getLsbD 15 = false) :
    requestSurvey c d s =
      if s.control.mode = .standby then refuse stWrongMode s
      else if s.dwells.survey.phase ≠ .none then refuse stBusy s
      else (surveyTaken c.toNat (clampNat 20000 2000000 (timeCodeValue d)) s,
        okOrClamped (decide (clampNat 20000 2000000 (timeCodeValue d) ≠ timeCodeValue d))
          :: timeCodeField (clampNat 20000 2000000 (timeCodeValue d))) := by
  rw [requestSurvey, (isChannel_iff _).2 ⟨low, high⟩, timeCodeBad, time]
  rfl

end

/-! ### READ_CHANNELS and RANKING (R47 to R49) -/

/-- The 13 channels are one more than the places of their records (R44). -/
theorem allChannels_flatMap {α : Type} (f : Nat → List α) :
    allChannels.flatMap f = (List.range 13).flatMap (fun i => f (i + 1)) := rfl

theorem covers_iff (t : Tracker) (c : Nat) : t.covers c = true ↔ ∃ d ∈ t.span, d ≤ c + 3 ∧ c ≤ d + 3 := by
  simp only [Tracker.covers, List.any_eq_true, channelsNear, decide_eq_true_eq]

/-- The duty of an OVEN entry, in natural numbers (R48). -/
theorem Tracker.duty_eq (t : Tracker) (g : Nat) :
    t.duty g = min 1000 ((16000 * (t.onDuration + 2 * g) + t.period - 1) / t.period) := by
  have cast : (16000 * ((t.onDuration : Int) + 2 * g)) = ((16000 * (t.onDuration + 2 * g) : Nat) : Int) := by push_cast; rfl
  rw [Tracker.duty, cast, ceilDiv_nat, Int.toNat_natCast]

/-- The score of a channel, written out (R48, R49). -/
theorem score_eq (s : State) (c : Nat) :
    score s c = if (s.channelRecord c).visited then
        min 2000 ((s.channelRecord c).load +
          ((s.tracking.entries.filter (fun e => decide (e.kind = .oven ∧ (e.state = .locked ∨ e.state = .dormant) ∧
              ∃ d ∈ e.span, d ≤ c + 3 ∧ c ≤ d + 3))).map (fun e =>
            min 1000 ((16000 * (e.onDuration + 2 * s.tracking.settings.guardBase) + e.period - 1) / e.period))).sum)
      else 2000 := by
  have chosen : (fun e : Tracker =>
      decide (e.kind = .oven ∧ (e.state = .locked ∨ e.state = .dormant)) && e.covers c) =
      fun e => decide (e.kind = .oven ∧ (e.state = .locked ∨ e.state = .dormant) ∧
        ∃ d ∈ e.span, d ≤ c + 3 ∧ c ≤ d + 3) := by
    funext e
    rw [Bool.eq_iff_iff]
    simp only [Bool.and_eq_true, decide_eq_true_eq, covers_iff, and_assoc]
  simp only [score, dutySum, chosen, Tracker.duty_eq]

end Sys2Proof.Machine

section
open Sys2Proof Sys2Proof.Machine

/-- Settles O20: by whether the length agrees and whether an argument is refused. -/
theorem setScanSetsThePendingPlan : Obligations.SetScanSetsThePendingPlan := by
  intro t count channels interleave operating offChannel margin s ready
  refine ⟨setScan_wrongLength ready t count channels interleave operating offChannel margin, fun agree bad => ?_,
    fun agree few inside distinct byte ho hf a b m ha hb hm => ?_⟩
  · rw [setScan_served ready t count channels interleave operating offChannel margin agree, requestSetScan_bad margin s bad]
    rfl
  · have list : scanListGood channels = true := (scanListGood_iff channels).2 ⟨few, inside, distinct⟩
    rw [setScan_served ready t count channels interleave operating offChannel margin agree,
      requestSetScan_good margin s list byte ho hf (scanPlan_eq _ _ _ _ _).symm, scanClamped_eq, okOrClamped_not,
      ← ha, ← hb, ← hm]
    rfl

/-- Settles O22: by the checks of SURVEY, in order. -/
theorem surveyWaitsForItsBoundary : Obligations.SurveyWaitsForItsBoundary := by
  refine fun t c duration s ready => ⟨fun bad => ?_, fun low high time => ?_⟩
  · rw [survey_served ready, requestSurvey_bad bad]
    rfl
  · rw [survey_served ready, requestSurvey_good low high time, clampNat_eq _ _ _ (by decide)]
    refine ⟨fun standby => ?_, fun running inFlight => ?_, fun running free d hd => ?_⟩
    · rw [if_pos standby]
      rfl
    · rw [if_neg running, if_pos inFlight]
      rfl
    · rw [if_neg running, if_neg (not_not.2 free), ← hd, okOrClamped_not]
      rfl

/-- Settles O23: both replies run over the channels in order, with the scores written out. -/
theorem channelRecordsAndRanking : Obligations.ChannelRecordsAndRanking := by
  refine ⟨fun t s ready => ?_, fun t s ready => ?_⟩
  · rw [readChannels_served ready, requestReadChannels, allChannels_flatMap]
    rfl
  · rw [ranking_served ready, requestRanking, allChannels_flatMap]
    simp only [score_eq]
    rfl
end

end

section
/-! PROOFS. The end of a dwell, what follows it, and the start of the next one. -/

namespace Sys2Proof.Machine

/-! ### What deliveries leave of the sense receiver (R28) -/

/-- The policy of an escalation does not touch the sense receiver (R156, R157). -/
theorem applyPolicy_sense (s : State) : (applyPolicy s).1.sense = s.sense := by
  unfold applyPolicy
  split
  · rfl
  · exact (relearn_trackingStep s).sense
  · exact (changeMode_plannerStep _ s).sense
  · exact (changeMode_plannerStep _ s).sense

theorem escalationTest_sense (r : BurstRecord) (assoc : Option Nat) (s : State) :
    (escalationTest r assoc s).sense = s.sense := by
  unfold escalationTest countSurprise
  split
  · dsimp only
    split
    · exact applyPolicy_sense _
    · rfl
  · rfl

theorem deliver_sense (r : BurstRecord) (s : State) : (deliver r s).sense = s.sense :=
  (escalationTest_sense r _ _).trans (trackRecord_trackingStep r s).sense

/-- With no rise pending there is nothing to settle (R73). -/
theorem sweepPending_nothing {s : State} (h : ∀ id < 12, (s.tracker id).pendingRise = none) : sweepPending s = s := by
  have swept (n : Nat) (hn : n ≤ 12) : (List.range n).foldl sweepEntry (s, false) = (s, false) := by
    induction n with
    | zero => rfl
    | succ n ih =>
      rw [List.range_succ, List.foldl_append, ih (Nat.le_of_succ_le hn)]
      exact sweepEntry_nothing rfl false (h n hn)
  rw [sweepPending, trackerIds_eq, swept 12 (Nat.le_refl _)]
  rfl

/-! ### The close of a dwell (R26, R43, R45, R46) -/

/-- The receiver at the end of a dwell: nothing held and nothing in progress (R26). -/
def released (s : State) : State := (s.withHeld none).quiet

/-- The deliveries of a dwell end and the settlements after them (R26, R73). -/
theorem senseDwellEnd_delivery (s : State) : DeliveryStep (released s) (senseDwellEnd s) := by
  unfold senseDwellEnd
  dsimp only
  refine DeliveryStep.trans ?_ (sweepPending_delivery _)
  split
  · exact DeliveryStep.refl _
  · exact deliver_delivery _ _
  · exact deliver_delivery _ _
  · split
    · exact deliver_delivery _ _
    · exact (deliver_delivery _ _).trans (deliver_delivery _ _)

theorem senseDwellEnd_sense (s : State) : (senseDwellEnd s).sense = (released s).sense := by
  unfold senseDwellEnd
  dsimp only
  refine (sweepPending_trackingStep _).sense.trans ?_
  split
  · rfl
  · exact deliver_sense _ _
  · exact deliver_sense _ _
  · split
    · exact deliver_sense _ _
    · exact (deliver_sense _ _).trans (deliver_sense _ _)

/-- With nothing held, no burst in progress and no rise pending, the end of a dwell releases and settles nothing. -/
theorem senseDwellEnd_nothing {s : State} (held : s.sense.held = none)
    (quiet : ∀ below b, s.sense.detector ≠ .inBurst below b) (settled : ∀ id < 12, (s.tracker id).pendingRise = none) :
    senseDwellEnd s = released s := by
  have cut : cutRecord s = none := by
    unfold cutRecord
    split
    · rfl
    · exact absurd ‹_› (quiet _ _)
  unfold senseDwellEnd
  rw [held, cut]
  exact sweepPending_nothing settled

/-- A dwell `d` of the state `s` that has ended in the state `u`, with `d'` what was counted in it at last. -/
structure DwellClosed (s u : State) (d d' : Dwell) : Prop where
  uncounted : d'.uncounted = d.uncounted
  sense : u.sense = (released s).sense
  dwells : u.dwells = { s.dwells with
    current := some d'
    survey := { s.dwells.survey with trackers := u.dwells.survey.trackers }
    records := if 10000 ≤ d.observed then
      s.dwells.records.set (d.channel - 1) ((s.channelRecord d.channel).updated d' s.airClock) else s.dwells.records }
  nothing : s.sense.held = none → (∀ below b, s.sense.detector ≠ .inBurst below b) →
    (∀ id < 12, (s.tracker id).pendingRise = none) →
    d' = d ∧ u.tracking = s.tracking ∧ u.planner = s.planner ∧ u.escalation = s.escalation ∧ u.control = s.control ∧
      u.link = s.link ∧ u.dwells.survey = s.dwells.survey

namespace DwellClosed

variable {s u : State} {d d' : Dwell} (h : DwellClosed s u d d')
include h

theorem current : u.dwells.current = some d' := (congrArg Dwells.current h.dwells :)
theorem operating : u.dwells.operating = s.dwells.operating := (congrArg Dwells.operating h.dwells :)
theorem plan : u.dwells.plan = s.dwells.plan := (congrArg Dwells.plan h.dwells :)
theorem pendingPlan : u.dwells.pendingPlan = s.dwells.pendingPlan := (congrArg Dwells.pendingPlan h.dwells :)
theorem pointer : u.dwells.pointer = s.dwells.pointer := (congrArg Dwells.pointer h.dwells :)
theorem group : u.dwells.group = s.dwells.group := (congrArg Dwells.group h.dwells :)
theorem forceOperating : u.dwells.forceOperating = s.dwells.forceOperating :=
  (congrArg Dwells.forceOperating h.dwells :)
theorem advice : u.dwells.advice = s.dwells.advice := (congrArg Dwells.advice h.dwells :)
theorem survey : u.dwells.survey = { s.dwells.survey with trackers := u.dwells.survey.trackers } :=
  (congrArg Dwells.survey h.dwells :)
theorem surveyPhase : u.dwells.survey.phase = s.dwells.survey.phase := (congrArg Survey.phase h.survey :)
theorem surveyChannel : u.dwells.survey.channel = s.dwells.survey.channel := (congrArg Survey.channel h.survey :)
theorem surveyDuration : u.dwells.survey.duration = s.dwells.survey.duration := (congrArg Survey.duration h.survey :)
theorem records : u.dwells.records = if 10000 ≤ d.observed then
    s.dwells.records.set (d.channel - 1) ((s.channelRecord d.channel).updated d' s.airClock) else s.dwells.records :=
  (congrArg Dwells.records h.dwells :)
theorem held : u.sense.held = none := (congrArg Sense.held h.sense :)

end DwellClosed

/-- What counting leaves of a dwell. -/
theorem Dwell.uncounted_eq {d d' : Dwell} (h : d'.uncounted = d.uncounted) :
    d'.kind = d.kind ∧ d'.channel = d.channel ∧ d'.observed = d.observed := by
  unfold Dwell.uncounted at h
  injection h with kind channel start plannedEnd busy unstructured observed
  exact ⟨kind, channel, observed⟩

/-- An update of a channel record replaces the records alone (R46). -/
theorem updateRecord_eq (d : Dwell) (s : State) :
    updateRecord d s = s.withDwells { s.dwells with
      records := if 10000 ≤ d.observed then
        s.dwells.records.set (d.channel - 1) ((s.channelRecord d.channel).updated d s.airClock) else s.dwells.records } := by
  unfold updateRecord leastObserved
  split <;> rfl

theorem closeDwell_eq {s u : State} {d : Dwell} (released : senseDwellEnd s = u) (current : u.dwells.current = some d) :
    closeDwell s = updateRecord d u := by
  unfold closeDwell
  rw [released]
  dsimp only
  rw [current]

/-- A dwell in progress is closed at its end, whatever ended it (R43). -/
theorem closeDwell_closed {s : State} {d : Dwell} (current : s.dwells.current = some d) :
    ∃ d', DwellClosed s (closeDwell s) d d' := by
  have step := senseDwellEnd_delivery s
  have sense := senseDwellEnd_sense s
  have nothing := senseDwellEnd_nothing (s := s)
  generalize ended : senseDwellEnd s = u at step sense nothing
  have counted : u.dwells.current.map Dwell.uncounted = some d.uncounted := by
    rw [step.current]
    exact congrArg (Option.map Dwell.uncounted) current
  obtain ⟨d', current', uncounted⟩ := Option.map_eq_some_iff.1 counted
  obtain ⟨_, channel, observed⟩ := Dwell.uncounted_eq uncounted
  have record : u.channelRecord d.channel = s.channelRecord d.channel := by
    rw [State.channelRecord, step.dwells]
    rfl
  have airClock : u.airClock = s.airClock := step.air.airClock
  rw [closeDwell_eq ended current', updateRecord_eq, channel, observed, record, airClock]
  refine ⟨d', uncounted, sense, ?_, fun held quiet settled => ?_⟩
  · rw [State.withDwells_dwells, step.dwells, current']
    rfl
  · obtain rfl := nothing held quiet settled
    exact ⟨Option.some.inj (current'.symm.trans current), rfl, rfl, rfl, rfl, rfl, rfl⟩

end Sys2Proof.Machine
end

section
/-! PROOFS. The start of the next dwell, and what the end of the last one brings first. -/

namespace Sys2Proof.Machine

/-! ### The start of a dwell (R13, R37 to R39, R53) -/

/-- A dwell that starts at `now`, with nothing counted in it (R38). -/
def Dwell.begun (kind : DwellKind) (channel length : Nat) (now : Instant) : Dwell :=
  { kind := kind, channel := channel, start := now, plannedEnd := Instant.plus now length, busy := 0
    unstructuredBusy := 0, observed := 0, structuredCount := 0, unstructuredCount := 0 }

theorem startDwell_eq (kind : DwellKind) (channel length : Nat) (s : State) :
    startDwell kind channel length s = senseDwellStart channel
      (s.withDwells { s.dwells with current := some (Dwell.begun kind channel length s.airClock) }) := rfl

/-- A state that the start of a dwell leads to: the receiver is tuned to its channel with the held record left alone, and
of the dwell scheduler only its place in the sequence, the current dwell and the survey's phase change. -/
structure DwellStarted (s t : State) : Prop where
  others : t = { s with sense := t.sense, dwells := t.dwells }
  held : t.sense.held = s.sense.held
  tuned : t.sense.tuned = t.dwells.current.map Dwell.channel
  dwells : t.dwells = { s.dwells with
    pointer := t.dwells.pointer, group := t.dwells.group, forceOperating := t.dwells.forceOperating
    current := t.dwells.current, survey := { s.dwells.survey with phase := t.dwells.survey.phase } }

@[simp] theorem startDwell_dwells (kind : DwellKind) (channel length : Nat) (s : State) :
    (startDwell kind channel length s).dwells
      = { s.dwells with current := some (Dwell.begun kind channel length s.airClock) } := by
  rw [startDwell_eq, senseDwellStart_eq]
  rfl

theorem startDwell_started (kind : DwellKind) (channel length : Nat) {s : State} {d : Dwells}
    (sequence : d = { s.dwells with
      pointer := d.pointer, group := d.group, forceOperating := d.forceOperating
      survey := { s.dwells.survey with phase := d.survey.phase } }) :
    DwellStarted s (startDwell kind channel length (s.withDwells d)) := by
  rw [startDwell_eq, senseDwellStart_eq]
  refine ⟨rfl, rfl, rfl, ?_⟩
  rw [sequence]
  rfl

section
variable {s : State} {o : Nat} (operating : s.dwells.operating = some o)
include operating

theorem startOperating_eq :
    startOperating s = startDwell .operating o s.dwells.plan.operatingLength
      (s.withDwells { s.dwells with group := 0, forceOperating := false }) := by
  rw [startOperating, operating]

theorem startOperating_started : DwellStarted s (startOperating s) := by
  rw [startOperating_eq operating]
  exact startDwell_started _ _ _ rfl

/-- The operating dwell of the sequence (R39). -/
theorem startOperating_dwells :
    (startOperating s).dwells = { s.dwells with
      group := 0, forceOperating := false
      current := some (Dwell.begun .operating o s.dwells.plan.operatingLength s.airClock) } := by
  rw [startOperating_eq operating, startDwell_dwells]
  rfl

theorem startSequenceDwell_started : DwellStarted s (startSequenceDwell s) := by
  unfold startSequenceDwell
  split
  · exact startOperating_started operating
  · split
    · exact startOperating_started operating
    · exact startDwell_started _ _ _ rfl

end

/-- An operating dwell follows when one is owed, when the group is full, and when the list is done (R35, R39). -/
theorem startSequenceDwell_operating {s : State} (h : s.dwells.forceOperating = true ∨
    s.dwells.plan.interleave.groupSize ≤ s.dwells.group ∨ s.dwells.upcoming = none) :
    startSequenceDwell s = startOperating s := by
  unfold startSequenceDwell
  split
  · rfl
  · rename_i neither
    rw [Bool.or_eq_true, decide_eq_true_eq, not_or] at neither
    rw [(h.resolve_left neither.1).resolve_left neither.2]

/-- Otherwise the next entry of the effective list (R39). -/
theorem startSequenceDwell_offChannel {s : State} {place c : Nat} (free : s.dwells.forceOperating = false)
    (room : s.dwells.group < s.dwells.plan.interleave.groupSize) (next : s.dwells.upcoming = some (place, c)) :
    startSequenceDwell s = startDwell .offChannel c s.dwells.plan.offChannelLength
      (s.withDwells { s.dwells with pointer := place + 1, group := s.dwells.group + 1 }) := by
  have neither : (s.dwells.forceOperating || decide (s.dwells.plan.interleave.groupSize ≤ s.dwells.group)) = false := by
    rw [free, decide_eq_false (Nat.not_le.2 room)]
    rfl
  simp only [startSequenceDwell, neither, next, Bool.false_eq_true, if_false]

/-- A survey that waits takes the boundary of a planned end (R53). -/
theorem startNextDwell_survey {s : State} (waiting : s.dwells.survey.phase = .waiting) :
    startNextDwell true s = startSurveyDwell (applyPlan s) := by
  have still : (applyPlan s).dwells.survey.phase = .waiting := by
    rw [applyPlan_eq]
    exact waiting
  simp only [startNextDwell, still, decide_true, Bool.and_self, if_true]

/-- Otherwise the sequence goes on. -/
theorem startNextDwell_sequence {s : State} {plannedEnd : Bool}
    (h : plannedEnd = false ∨ s.dwells.survey.phase ≠ .waiting) :
    startNextDwell plannedEnd s = startSequenceDwell (applyPlan s) := by
  have skipped : (plannedEnd && decide ((applyPlan s).dwells.survey.phase = .waiting)) = false := by
    rw [applyPlan_eq]
    rcases h with cut | other
    · rw [cut, Bool.false_and]
    · rw [State.withDwells_dwells, decide_eq_false other, Bool.and_false]
  simp only [startNextDwell, skipped, Bool.false_eq_true, if_false]

/-- With no plan pending nothing comes into use (R37). -/
theorem applyPlan_none {s : State} (h : s.dwells.pendingPlan = none) : applyPlan s = s := by
  rw [applyPlan, h]

/-- A state that the start of the next dwell leads to: a dwell started with any pending plan in use. -/
structure NextStarted (s t : State) : Prop where
  others : t = { s with sense := t.sense, dwells := t.dwells }
  held : t.sense.held = s.sense.held
  tuned : t.sense.tuned = t.dwells.current.map Dwell.channel
  dwells : t.dwells = { s.dwells with
    plan := s.dwells.pendingPlan.getD s.dwells.plan, pendingPlan := none
    pointer := t.dwells.pointer, group := t.dwells.group, forceOperating := t.dwells.forceOperating
    current := t.dwells.current, survey := { s.dwells.survey with phase := t.dwells.survey.phase } }

theorem DwellStarted.next {s t : State} (h : DwellStarted (applyPlan s) t) : NextStarted s t := by
  obtain ⟨others, held, tuned, dwells⟩ := h
  rw [applyPlan_eq] at others held dwells
  exact ⟨others, held, tuned, dwells⟩

section
variable {s : State} {o : Nat} (operating : s.dwells.operating = some o) {plannedEnd : Bool}
include operating

theorem applyPlan_operating : (applyPlan s).dwells.operating = some o := by
  rw [applyPlan_eq]
  exact operating

theorem startNextDwell_started (plannedEnd : Bool) : NextStarted s (startNextDwell plannedEnd s) := by
  refine DwellStarted.next ?_
  unfold startNextDwell
  dsimp only
  split
  · exact startDwell_started _ _ _ rfl
  · exact startSequenceDwell_started (applyPlan_operating operating)

/-- An operating dwell comes next with a pending plan in use, when one is owed, when the group is full and when the list
is done (R35, R37, R39). -/
theorem startNextDwell_operating (skipped : plannedEnd = false ∨ s.dwells.survey.phase ≠ .waiting)
    (h : s.dwells.pendingPlan.isSome = true ∨ s.dwells.forceOperating = true ∨
      s.dwells.plan.interleave.groupSize ≤ s.dwells.group ∨ s.dwells.upcoming = none) :
    (startNextDwell plannedEnd s).dwells = { s.dwells with
      plan := s.dwells.pendingPlan.getD s.dwells.plan, pendingPlan := none
      pointer := if s.dwells.pendingPlan.isSome then 0 else s.dwells.pointer
      group := 0, forceOperating := false
      current := some (Dwell.begun .operating o (s.dwells.pendingPlan.getD s.dwells.plan).operatingLength s.airClock) } := by
  have owed : (applyPlan s).dwells.forceOperating = true ∨
      (applyPlan s).dwells.plan.interleave.groupSize ≤ (applyPlan s).dwells.group ∨
      (applyPlan s).dwells.upcoming = none := by
    cases pending : s.dwells.pendingPlan with
    | none =>
      rw [applyPlan_none pending]
      exact h.resolve_left (by rw [pending]; exact Bool.false_ne_true)
    | some p =>
      refine .inl ?_
      rw [applyPlan_eq, State.withDwells_dwells, pending]
      rfl
  rw [startNextDwell_sequence skipped, startSequenceDwell_operating owed,
    startOperating_dwells (applyPlan_operating operating), applyPlan_eq]
  rfl

end

/-- Otherwise the next entry of the effective list comes next (R39). -/
theorem startNextDwell_offChannel {s : State} {plannedEnd : Bool} {place c : Nat}
    (skipped : plannedEnd = false ∨ s.dwells.survey.phase ≠ .waiting) (pending : s.dwells.pendingPlan = none)
    (free : s.dwells.forceOperating = false) (room : s.dwells.group < s.dwells.plan.interleave.groupSize)
    (next : s.dwells.upcoming = some (place, c)) :
    (startNextDwell plannedEnd s).dwells = { s.dwells with
      pointer := place + 1, group := s.dwells.group + 1
      current := some (Dwell.begun .offChannel c s.dwells.plan.offChannelLength s.airClock) } := by
  rw [startNextDwell_sequence skipped, applyPlan_none pending, startSequenceDwell_offChannel free room next,
    startDwell_dwells]
  rfl

/-- A waiting survey comes first of all (R53). -/
theorem startNextDwell_surveys {s : State} (waiting : s.dwells.survey.phase = .waiting) :
    (startNextDwell true s).dwells.survey.phase = .dwelling ∧ (startNextDwell true s).dwells.current =
      some (Dwell.begun .survey s.dwells.survey.channel s.dwells.survey.duration s.airClock) := by
  rw [startNextDwell_survey waiting, startSurveyDwell, startDwell_dwells, applyPlan_eq]
  exact ⟨rfl, rfl⟩

/-- No other dwell changes the survey's phase. -/
theorem startNextDwell_phase {s : State} {plannedEnd : Bool}
    (skipped : plannedEnd = false ∨ s.dwells.survey.phase ≠ .waiting) :
    (startNextDwell plannedEnd s).dwells.survey.phase = s.dwells.survey.phase := by
  have kept (v : State) : (startOperating v).dwells.survey = v.dwells.survey := by
    unfold startOperating
    split
    · rfl
    · rw [startDwell_dwells]
      rfl
  rw [startNextDwell_sequence skipped]
  have applied : (applyPlan s).dwells.survey = s.dwells.survey := by
    rw [applyPlan_eq]
    rfl
  rw [← applied]
  unfold startSequenceDwell
  split
  · rw [kept]
  · split
    · rw [kept]
    · rw [startDwell_dwells]
      rfl

/-! ### What a dwell end brings before the next dwell (R41, R43, R50, R55) -/

/-- The end of a cycle owes an operating dwell and returns the pointer to the start, and beyond that changes the advice and
hands over reports (R39, R41, R50). -/
theorem endCycle_changes (s : State) :
    endCycle s = { s with
      link := (endCycle s).link
      dwells := { s.dwells with pointer := 0, forceOperating := true, advice := (endCycle s).dwells.advice } } := by
  unfold endCycle adviceTest
  split
  · split
    · split <;> rfl
    · rfl
  · rfl

/-- Of the dwell scheduler, what follows the close of a dwell changes the pointer, the dwell owed, the advice and the
survey's phase; and it hands over reports (R41, R50, R55). -/
theorem afterDwell_changes (d : Dwell) (s : State) :
    afterDwell d s = { s with
      link := (afterDwell d s).link
      dwells := { s.dwells with
        pointer := (afterDwell d s).dwells.pointer, forceOperating := (afterDwell d s).dwells.forceOperating
        advice := (afterDwell d s).dwells.advice
        survey := { s.dwells.survey with phase := (afterDwell d s).dwells.survey.phase } } } := by
  unfold afterDwell
  split
  · rfl
  all_goals
    split
    · rw [endCycle_changes]
    · rfl

end Sys2Proof.Machine
end

section
/-! PROOFS. The scan list, the advice test, and the end of a dwell. -/

namespace Sys2Proof.Machine

/-! ### The entries of the scan list that come next (R39 to R41) -/

theorem nextEntry_eq_none {o place : Nat} {cs : List Nat} :
    nextEntry (some o) place cs = none ↔ ∀ c ∈ cs, c = o := by
  induction cs generalizing place with
  | nil => simp [nextEntry]
  | cons c cs ih =>
    rw [nextEntry, List.forall_mem_cons]
    by_cases here : c = o
    · simp [here, ih]
    · simp [here]

/-- The first entry that is not O, at its place. -/
theorem nextEntry_eq_some {o place i c : Nat} {cs : List Nat} (entry : cs[i]? = some c) (other : c ≠ o)
    (passed : ∀ j c', j < i → cs[j]? = some c' → c' = o) : nextEntry (some o) place cs = some (place + i, c) := by
  induction cs generalizing place i with
  | nil => cases entry
  | cons b cs ih =>
    cases i with
    | zero =>
      obtain rfl := Option.some.inj entry
      simp [nextEntry, other]
    | succ i =>
      have here : b = o := passed 0 b (Nat.succ_pos i) rfl
      have rest := ih (place := place + 1) (i := i) entry fun j c' hj => passed (j + 1) c' (Nat.succ_lt_succ hj)
      rw [nextEntry, if_pos (congrArg some here), rest, Nat.add_assoc, Nat.add_comm 1]

section
variable {d : Dwells} {o : Nat} (operating : d.operating = some o)
include operating

theorem Dwells.upcoming_eq_none :
    d.upcoming = none ↔ ∀ i c, d.pointer ≤ i → d.plan.channels[i]? = some c → c = o := by
  rw [Dwells.upcoming, operating, nextEntry_eq_none]
  refine ⟨fun all i c from_pointer entry => all c ?_, fun all c mem => ?_⟩
  · refine List.mem_of_getElem? (i := i - d.pointer) ?_
    rw [List.getElem?_drop, Nat.add_sub_cancel' from_pointer, entry]
  · obtain ⟨i, entry⟩ := List.getElem?_of_mem mem
    rw [List.getElem?_drop] at entry
    exact all _ c (Nat.le_add_right _ i) entry

theorem Dwells.upcoming_eq_some {place c : Nat} (from_pointer : d.pointer ≤ place)
    (entry : d.plan.channels[place]? = some c) (other : c ≠ o)
    (passed : ∀ i c', d.pointer ≤ i → i < place → d.plan.channels[i]? = some c' → c' = o) :
    d.upcoming = some (place, c) := by
  have found := nextEntry_eq_some (o := o) (place := d.pointer) (i := place - d.pointer) (c := c)
    (cs := d.plan.channels.drop d.pointer) ?_ other fun j c' hj entry => ?_
  · rw [Dwells.upcoming, operating, found, Nat.add_sub_cancel' from_pointer]
  · rw [List.getElem?_drop, Nat.add_sub_cancel' from_pointer, entry]
  · rw [List.getElem?_drop] at entry
    exact passed _ c' (Nat.le_add_right _ j) (by omega) entry

theorem Dwells.mem_effective (c : Nat) : c ∈ d.effective ↔ c ∈ d.plan.channels ∧ c ≠ o := by
  simp [Dwells.effective, operating]

/-- The dwells whose end ends the scan cycle (R40, R41). -/
theorem endsCycle_iff (kind : DwellKind) :
    endsCycle d kind = true ↔ (kind = .operating ∧ ∀ c ∈ d.plan.channels, c = o) ∨
      (kind = .offChannel ∧ ∀ i c, d.pointer ≤ i → d.plan.channels[i]? = some c → c = o) := by
  cases kind with
  | operating =>
    simp only [endsCycle, List.isEmpty_iff, List.eq_nil_iff_forall_not_mem, Dwells.mem_effective operating, not_and,
      not_not, true_and, reduceCtorEq, false_and, or_false]
  | offChannel =>
    simp only [endsCycle, Option.isNone_iff_eq_none, Dwells.upcoming_eq_none operating, true_and, reduceCtorEq, false_and,
      false_or]
  | survey => simp [endsCycle]

end

/-! ### The advice test (R50) -/

/-- Of channels the one of lowest score, the lowest number on a tie. -/
def IsBest (s : State) (cs : List Nat) (b : Nat) : Prop :=
  b ∈ cs ∧ ∀ c ∈ cs, score s b < score s c ∨ (score s b = score s c ∧ b ≤ c)

theorem IsBest.unique {s : State} {cs : List Nat} {b b' : Nat} (h : IsBest s cs b) (h' : IsBest s cs b') : b = b' := by
  have := h.2 b' h'.1
  have := h'.2 b h.1
  omega

theorem bestChannel_cases (s : State) (cs : List Nat) :
    (cs = [] ∧ bestChannel s cs = none) ∨ ∃ b, bestChannel s cs = some b ∧ IsBest s cs b := by
  induction cs with
  | nil => exact .inl ⟨rfl, rfl⟩
  | cons c cs ih =>
    right
    unfold IsBest
    simp only [bestChannel, List.mem_cons, forall_eq_or_imp]
    rcases ih with ⟨rfl, none_left⟩ | ⟨b, best, mem, least⟩
    · rw [none_left]
      exact ⟨c, rfl, .inl rfl, .inr ⟨rfl, Nat.le_refl c⟩, nofun⟩
    · rw [best]
      by_cases better : score s b < score s c ∨ (score s b = score s c ∧ b < c)
      · exact ⟨b, if_pos better, .inr mem, by omega, least⟩
      · refine ⟨c, if_neg better, .inl rfl, .inr ⟨rfl, Nat.le_refl c⟩, fun x hx => ?_⟩
        have := least x hx
        omega

theorem bestChannel_eq_some {s : State} {cs : List Nat} {b : Nat} : bestChannel s cs = some b ↔ IsBest s cs b := by
  rcases bestChannel_cases s cs with ⟨rfl, none_there⟩ | ⟨b', best, isBest⟩
  · simp [none_there, IsBest]
  · rw [best, Option.some_inj]
    exact ⟨fun same => same ▸ isBest, fun h => isBest.unique h⟩

/-- The cycle passes for the channel `b` of the effective list (R50). -/
def Advises (s : State) (o b : Nat) : Prop :=
  IsBest s s.dwells.effective b ∧ s.dwells.plan.margin + score s b ≤ score s o

theorem bestChannel_congr {s t : State} (same : ∀ c, score t c = score s c) (cs : List Nat) :
    bestChannel t cs = bestChannel s cs := by
  induction cs with
  | nil => rfl
  | cons c cs ih => simp only [bestChannel, ih, same]

/-- The dwell scheduler at the end of a cycle, before the advice test: the pointer back at the start and an operating
dwell owed (R39, R41). -/
def operatingOwed (s : State) : State := s.withDwells { s.dwells with pointer := 0, forceOperating := true }

theorem operatingOwed_advice (s : State) : (operatingOwed s).dwells.advice = s.dwells.advice := rfl

theorem endCycle_eq (s : State) : endCycle s = adviceTest (operatingOwed s) := rfl

/-- The pointer and the dwell owed play no part in the advice test. -/
theorem advicePasses_operatingOwed (s : State) : advicePasses (operatingOwed s) = advicePasses s := by
  have same : ∀ c, score (operatingOwed s) c = score s c := fun _ => rfl
  unfold advicePasses
  rw [bestChannel_congr same]
  rfl

section
variable {s : State} {o : Nat} (operating : s.dwells.operating = some o)
include operating

theorem advicePasses_eq_some {b : Nat} (h : Advises s o b) : advicePasses s = some (o, b) := by
  simp only [advicePasses, operating, bestChannel_eq_some.2 h.1, h.2, if_true]

theorem advicePasses_eq_none (h : ∀ b, ¬ Advises s o b) : advicePasses s = none := by
  unfold advicePasses
  rw [operating]
  split
  · rename_i o' b same best
    obtain rfl := Option.some.inj same
    exact if_neg fun margin => h b ⟨bestChannel_eq_some.1 best, margin⟩
  · rfl
  · rfl

/-- At the end of a cycle that passes while the advice is armed, a pass is counted. -/
theorem endCycle_counts {b : Nat} (h : Advises s o b) (armed : s.dwells.advice.armed = true)
    (few : s.dwells.advice.passes < 2) :
    endCycle s = s.withDwells { s.dwells with
      pointer := 0, forceOperating := true, advice := { armed := true, passes := s.dwells.advice.passes + 1 } } := by
  simp only [endCycle_eq, adviceTest, advicePasses_operatingOwed, advicePasses_eq_some operating h, operatingOwed_advice, armed, if_true, if_neg (Nat.not_le.2 few)]
  rfl

/-- The third pass running is reported, and the advice disarmed. -/
theorem endCycle_reports {b : Nat} (h : Advises s o b) (armed : s.dwells.advice.armed = true)
    (third : 2 ≤ s.dwells.advice.passes) :
    endCycle s = { s with
      dwells := { s.dwells with pointer := 0, forceOperating := true, advice := { armed := false, passes := 0 } }
      link := s.link.hand .advice ([byteOf o, byteOf b] ++ le16n (score s o) ++ le16n (score s b)) } := by
  simp only [endCycle_eq, adviceTest, advicePasses_operatingOwed, advicePasses_eq_some operating h, operatingOwed_advice, armed, if_true, if_pos third]
  rfl

/-- A pass of a disarmed advice changes nothing in it. -/
theorem endCycle_disarmed {b : Nat} (h : Advises s o b) (disarmed : s.dwells.advice.armed = false) :
    endCycle s = s.withDwells { s.dwells with pointer := 0, forceOperating := true } := by
  simp only [endCycle_eq, adviceTest, advicePasses_operatingOwed, advicePasses_eq_some operating h, operatingOwed_advice, disarmed, Bool.false_eq_true, if_false]
  rfl

/-- A cycle that does not pass arms the advice again. -/
theorem endCycle_rearms (h : ∀ b, ¬ Advises s o b) :
    endCycle s = s.withDwells { s.dwells with
      pointer := 0, forceOperating := true, advice := { armed := true, passes := 0 } } := by
  simp only [endCycle_eq, adviceTest, advicePasses_operatingOwed, advicePasses_eq_none operating h]
  rfl

end

/-! ### What follows the close of a dwell, by its kind (R41, R43, R55) -/

section
variable {d : Dwell} {s : State}

theorem afterDwell_survey (survey : d.kind = .survey) : afterDwell d s = finishSurvey d s := by
  rw [afterDwell, survey]

theorem afterDwell_cycle (ends : endsCycle s.dwells d.kind = true) : afterDwell d s = endCycle s := by
  unfold afterDwell
  split
  · rename_i kind
    rw [kind] at ends
    cases ends
  all_goals
    rename_i kind
    rw [← kind, if_pos ends]

theorem afterDwell_goesOn (other : d.kind ≠ .survey) (goesOn : endsCycle s.dwells d.kind = false) :
    afterDwell d s = s := by
  unfold afterDwell
  split
  · exact absurd ‹_› other
  all_goals
    rename_i kind
    rw [← kind, if_neg (by rw [goesOn]; exact Bool.false_ne_true)]

end

end Sys2Proof.Machine
end

section
/-! PROOFS. The end of a dwell and the start of the next. -/

namespace Sys2Proof.Machine

/-- The record of a channel after a dwell, written out (R46). -/
theorem ChannelRecord.updated_eq (r : ChannelRecord) (d : Dwell) (now : Instant) :
    r.updated d now =
      { visited := true
        load := (max 0 (min 1000 ((r.load : Int) +
          roundAway (((min 1000 (1000 * d.busy / d.observed) : Nat) : Int) - r.load) 8))).toNat
        unstructuredLoad := (max 0 (min 1000 ((r.unstructuredLoad : Int) +
          roundAway (((min 1000 (1000 * d.unstructuredBusy / d.observed) : Nat) : Int) - r.unstructuredLoad) 8))).toNat
        lastVisitEnd := now
        visits := min 65535 (r.visits + 1) } := by
  rw [ChannelRecord.updated, smoothLoad, smoothLoad, clamp_eq _ _ _ (by decide), clamp_eq _ _ _ (by decide)]
  rfl

/-- A dwell end closes the dwell, takes what follows by its kind, and starts the next one (R43). -/
theorem endDwell_eq {s u : State} {d : Dwell} (closed : closeDwell s = u) (current : u.dwells.current = some d) :
    endDwell s = startNextDwell true (afterDwell d u) := by
  unfold endDwell
  rw [closed]
  dsimp only
  rw [current]

/-! ### The state after a dwell end, from the one its close leaves -/

section
variable {u : State} {d : Dwell} {o : Nat} (operating : u.dwells.operating = some o)

theorem afterDwell_operating : (afterDwell d u).dwells.operating = u.dwells.operating := by rw [afterDwell_changes]

/-- A dwell end does not make a survey wait. -/
theorem afterDwell_notWaiting (h : u.dwells.survey.phase ≠ .waiting) :
    (afterDwell d u).dwells.survey.phase ≠ .waiting := by
  by_cases survey : d.kind = .survey
  · rw [afterDwell_survey survey]
    exact SurveyPhase.noConfusion
  · cases ends : endsCycle u.dwells d.kind with
    | true =>
      rw [afterDwell_cycle ends, endCycle_changes]
      exact h
    | false =>
      rw [afterDwell_goesOn survey ends]
      exact h

/-- A dwell whose end does not end the cycle leaves the scan where it is. -/
theorem afterDwell_sequence (ends : endsCycle u.dwells d.kind = false) :
    (afterDwell d u).dwells = { u.dwells with
      survey := { u.dwells.survey with phase := (afterDwell d u).dwells.survey.phase } } := by
  by_cases survey : d.kind = .survey
  · rw [afterDwell_survey survey]
    rfl
  · rw [afterDwell_goesOn survey ends]

/-- The units other than the dwell scheduler, the sense receiver and the link controller are left alone; the link
controller is handed what follows the close. -/
theorem afterDwell_next_others {t : State} (h : NextStarted (afterDwell d u) t) :
    t = { u with sense := t.sense, dwells := t.dwells, link := (afterDwell d u).link } := by
  have others := h.others
  rw [afterDwell_changes] at others
  exact others

/-- What the next dwell leaves of the dwell scheduler. -/
theorem afterDwell_next_dwells {t : State} (h : NextStarted (afterDwell d u) t) :
    t.dwells = { u.dwells with
      plan := u.dwells.pendingPlan.getD u.dwells.plan, pendingPlan := none, pointer := t.dwells.pointer
      group := t.dwells.group, forceOperating := t.dwells.forceOperating, current := t.dwells.current
      advice := (afterDwell d u).dwells.advice
      survey := { u.dwells.survey with phase := t.dwells.survey.phase } } := by
  have dwells := h.dwells
  rw [afterDwell_changes] at dwells
  exact dwells

include operating

/-- The next dwell's facts all follow from the ended dwell's kind and the scheduler as the close left it. -/
theorem afterDwell_next : NextStarted (afterDwell d u) (startNextDwell true (afterDwell d u)) :=
  startNextDwell_started (afterDwell_operating.trans operating) true

omit operating in
/-- A survey dwell completes its survey (R55). -/
theorem survey_completed (survey : d.kind = .survey) :
    (startNextDwell true (afterDwell d u)).dwells.survey.phase = .none ∧
      (afterDwell d u).dwells.advice = u.dwells.advice ∧
      (afterDwell d u).link = u.link.hand .surveyDone
        ([0x00, byteOf u.dwells.survey.channel] ++
          le16n (if 10000 ≤ d.observed then min 1000 (1000 * d.busy / d.observed) else 65535) ++
          le16n d.structuredCount ++ le16n d.unstructuredCount ++
          byteOf u.dwells.survey.trackers.length :: u.dwells.survey.trackers.map byteOf) := by
  have idle : (afterDwell d u).dwells.survey.phase = .none := by
    rw [afterDwell_survey survey]
    rfl
  have skipped : (afterDwell d u).dwells.survey.phase ≠ .waiting := by
    rw [idle]
    exact SurveyPhase.noConfusion
  rw [startNextDwell_phase (.inr skipped)]
  refine ⟨idle, ?_, ?_⟩
  · rw [afterDwell_survey survey]
    rfl
  · rw [afterDwell_survey survey]
    rfl

/-- The advice at the end of a cycle, by whether it passes and how it is armed (R50). -/
theorem cycle_advice (ends : endsCycle u.dwells d.kind = true) :
    (∀ b, Advises u o b →
      (u.dwells.advice.armed = true → u.dwells.advice.passes < 2 → (afterDwell d u).link = u.link ∧
        (afterDwell d u).dwells.advice = { armed := true, passes := u.dwells.advice.passes + 1 }) ∧
      (u.dwells.advice.armed = true → 2 ≤ u.dwells.advice.passes →
        (afterDwell d u).link =
          u.link.hand .advice ([byteOf o, byteOf b] ++ le16n (score u o) ++ le16n (score u b)) ∧
        (afterDwell d u).dwells.advice = { armed := false, passes := 0 }) ∧
      (u.dwells.advice.armed = false → (afterDwell d u).link = u.link ∧
        (afterDwell d u).dwells.advice = u.dwells.advice)) ∧
    ((∀ b, ¬ Advises u o b) → (afterDwell d u).link = u.link ∧
      (afterDwell d u).dwells.advice = { armed := true, passes := 0 }) := by
  rw [afterDwell_cycle ends]
  refine ⟨fun b advises => ⟨fun armed few => ?_, fun armed third => ?_, fun disarmed => ?_⟩, fun never => ?_⟩
  · rw [endCycle_counts operating advises armed few]
    exact ⟨rfl, rfl⟩
  · rw [endCycle_reports operating advises armed third]
    exact ⟨rfl, rfl⟩
  · rw [endCycle_disarmed operating advises disarmed]
    exact ⟨rfl, rfl⟩
  · rw [endCycle_rearms operating never]
    exact ⟨rfl, rfl⟩

/-- The cycle passes for `b`, over the scan list and O (R49, R50). -/
theorem advises_iff (b : Nat) :
    Advises u o b ↔ b ∈ u.dwells.plan.channels ∧ b ≠ o ∧
      (∀ c ∈ u.dwells.plan.channels, c ≠ o → score u b < score u c ∨ (score u b = score u c ∧ b ≤ c)) ∧
      u.dwells.plan.margin + score u b ≤ score u o := by
  simp only [Advises, IsBest, Dwells.mem_effective operating, and_imp, and_assoc]

/-- The end of a cycle brings an operating dwell, the pointer back at the start (R39, R41). -/
theorem cycle_next (ends : endsCycle u.dwells d.kind = true) (free : u.dwells.survey.phase ≠ .waiting)
    (pending : u.dwells.pendingPlan = none) :
    (startNextDwell true (afterDwell d u)).dwells.current =
        some (Dwell.begun .operating o u.dwells.plan.operatingLength u.airClock) ∧
      (startNextDwell true (afterDwell d u)).dwells.pointer = 0 := by
  have skipped := afterDwell_notWaiting (d := d) free
  have changes := endCycle_changes u
  rw [afterDwell_cycle ends] at skipped ⊢
  generalize endCycle u = x at changes skipped ⊢
  rw [startNextDwell_operating (by rw [changes]; exact operating) (.inr skipped) (.inr (.inl (by rw [changes]))), changes]
  dsimp only
  rw [pending]
  exact ⟨rfl, rfl⟩

/-- Within a cycle an operating dwell comes next when one is owed or the group is full (R35, R39). -/
theorem sequence_operating (goesOn : endsCycle u.dwells d.kind = false) (free : u.dwells.survey.phase ≠ .waiting)
    (pending : u.dwells.pendingPlan = none)
    (owed : u.dwells.forceOperating = true ∨ u.dwells.plan.interleave.groupSize ≤ u.dwells.group) :
    (startNextDwell true (afterDwell d u)).dwells.current =
        some (Dwell.begun .operating o u.dwells.plan.operatingLength u.airClock) ∧
      (startNextDwell true (afterDwell d u)).dwells.group = 0 ∧
      (startNextDwell true (afterDwell d u)).dwells.pointer = u.dwells.pointer := by
  have clock : (afterDwell d u).airClock = u.airClock := by rw [afterDwell_changes]
  have scan := afterDwell_sequence goesOn
  have skipped := afterDwell_notWaiting (d := d) free
  generalize afterDwell d u = x at clock scan skipped ⊢
  have owed' : x.dwells.forceOperating = true ∨ x.dwells.plan.interleave.groupSize ≤ x.dwells.group ∨
      x.dwells.upcoming = none := by
    rw [scan]
    exact owed.imp_right .inl
  rw [startNextDwell_operating (by rw [scan]; exact operating) (.inr skipped) (.inr owed'), clock, scan]
  dsimp only
  rw [pending]
  exact ⟨rfl, rfl, rfl⟩

omit operating in
/-- Otherwise the next entry of the scan list that is not O (R39). -/
theorem sequence_offChannel (goesOn : endsCycle u.dwells d.kind = false) (free : u.dwells.survey.phase ≠ .waiting)
    (pending : u.dwells.pendingPlan = none) (notOwed : u.dwells.forceOperating = false)
    (room : u.dwells.group < u.dwells.plan.interleave.groupSize) {place c : Nat}
    (next : u.dwells.upcoming = some (place, c)) :
    (startNextDwell true (afterDwell d u)).dwells.current =
        some (Dwell.begun .offChannel c u.dwells.plan.offChannelLength u.airClock) ∧
      (startNextDwell true (afterDwell d u)).dwells.group = u.dwells.group + 1 ∧
      (startNextDwell true (afterDwell d u)).dwells.pointer = place + 1 := by
  have clock : (afterDwell d u).airClock = u.airClock := by rw [afterDwell_changes]
  have scan := afterDwell_sequence goesOn
  have skipped := afterDwell_notWaiting (d := d) free
  generalize afterDwell d u = x at clock scan skipped ⊢
  have next' : x.dwells.upcoming = some (place, c) := by
    rw [scan]
    exact next
  rw [startNextDwell_offChannel (.inr skipped) (by rw [scan]; exact pending) (by rw [scan]; exact notOwed)
    (by rw [scan]; exact room) next', clock, scan]
  exact ⟨rfl, rfl, rfl⟩

/-- A pending plan comes into use with an operating dwell (R37). -/
theorem pendingPlan_next (free : u.dwells.survey.phase ≠ .waiting) (pending : u.dwells.pendingPlan.isSome = true) :
    (startNextDwell true (afterDwell d u)).dwells.current =
      some (Dwell.begun .operating o (u.dwells.pendingPlan.getD u.dwells.plan).operatingLength u.airClock) := by
  have changes := afterDwell_changes d u
  have skipped := afterDwell_notWaiting (d := d) free
  generalize afterDwell d u = x at changes skipped ⊢
  rw [startNextDwell_operating (by rw [changes]; exact operating) (.inr skipped) (.inl (by rw [changes]; exact pending)),
    changes]

omit operating in
/-- A waiting survey takes the boundary of a dwell that is not a survey's (R53). -/
theorem survey_next (other : d.kind ≠ .survey) (waiting : u.dwells.survey.phase = .waiting) :
    (startNextDwell true (afterDwell d u)).dwells.current =
        some (Dwell.begun .survey u.dwells.survey.channel u.dwells.survey.duration u.airClock) ∧
      (startNextDwell true (afterDwell d u)).dwells.survey.phase = .dwelling := by
  have kept : (afterDwell d u).dwells.survey = u.dwells.survey := by
    cases ends : endsCycle u.dwells d.kind with
    | true => rw [afterDwell_cycle ends, endCycle_changes]
    | false => rw [afterDwell_goesOn other ends]
  have clock : (afterDwell d u).airClock = u.airClock := by rw [afterDwell_changes]
  obtain ⟨phase, current⟩ := startNextDwell_surveys (s := afterDwell d u) (by rw [kept]; exact waiting)
  rw [current, kept, clock]
  exact ⟨rfl, phase⟩

end

end Sys2Proof.Machine

section
open Sys2Proof Sys2Proof.Machine

/-- Settles O44: the close of the dwell, then what follows by its kind, then the next dwell. -/
theorem dwellEndBringsTheNextDwell : Obligations.DwellEndBringsTheNextDwell := by
  intro s d o run current reached operating next hnext plan size hplan hsize
  obtain rfl : next = fun kind channel length => Dwell.begun kind channel length s.airClock := by
    funext kind channel length
    exact hnext kind channel length
  obtain ⟨d', closed⟩ := closeDwell_closed current
  obtain ⟨kind, _, observed⟩ := Dwell.uncounted_eq closed.uncounted
  have airClose := closeDwell_air s
  have ended := endDwell_eq rfl closed.current
  have airEnd := endDwell_air s
  have due : dwellOver s = true := by
    simp only [dwellOver, current, reached]
  have taken : exec .dwellEnd s = .next (pump (reform (endDwell s))) := event_taken endDwell run due
  rw [ended] at taken airEnd
  generalize closeDwell s = u at closed airClose taken airEnd
  have operating' : u.dwells.operating = some o := closed.operating.trans operating
  have clock : u.airClock = s.airClock := airClose.airClock
  have started := afterDwell_next (d := d') operating'
  have others := afterDwell_next_others started
  have dwells := afterDwell_next_dwells started
  have link : (startNextDwell true (afterDwell d' u)).link = (afterDwell d' u).link := (congrArg State.link others :)
  have advice : (startNextDwell true (afterDwell d' u)).dwells.advice = (afterDwell d' u).dwells.advice :=
    (congrArg Dwells.advice dwells :)
  have ends := endsCycle_iff operating' d'.kind
  rw [kind, closed.plan, closed.pointer] at ends
  refine ⟨u, startNextDwell true (afterDwell d' u), d', taken, airClose, airEnd, closed.uncounted, closed.current,
    closed.advice, closed.survey, (congrArg Dwells.records dwells.symm :), (congrArg State.tracking others :),
    (congrArg State.planner others :), (congrArg State.escalation others :), (congrArg State.control others :), ?held,
    started.tuned, closed.nothing, ?records, ?plan, (congrArg Dwells.pendingPlan dwells :), ?survey, ?cycle, ?waiting,
    ?sequence⟩
  case held =>
    rw [started.held, afterDwell_changes]
    exact closed.held
  case records =>
    rw [dwells, ← observed, ← ChannelRecord.updated_eq, observed]
    exact closed.records
  case plan =>
    rw [dwells, hplan, ← closed.plan, ← closed.pendingPlan]
  case survey =>
    intro survey
    obtain ⟨phase, kept, handed⟩ := survey_completed (u := u) (kind.trans survey)
    rw [link, handed, closed.surveyChannel, observed]
    exact ⟨phase, advice.trans (kept.trans closed.advice), rfl⟩
  case cycle =>
    intro cycleEnds points passes hends hpoints hpasses
    obtain rfl : points = score u := funext fun c => (hpoints c).trans (score_eq u c).symm
    rw [← ends, ← kind] at hends
    have hpasses (b) : passes b ↔ Advises u o b := by
      rw [hpasses, advises_iff operating', closed.plan]
    rw [link, advice]
    refine ⟨fun other goesOn => ?_, fun ended => ?_⟩
    · rw [afterDwell_goesOn (by rwa [kind]) (Bool.eq_false_iff.2 fun h => goesOn (hends.2 h))]
      exact ⟨rfl, closed.advice⟩
    · obtain ⟨pass, fail⟩ := cycle_advice operating' (hends.1 ended)
      rw [closed.advice] at pass
      exact ⟨fun b h => pass b ((hpasses b).1 h), fun never => fail fun b h => never b ((hpasses b).2 h)⟩
  case waiting =>
    intro other waiting
    rw [← closed.surveyChannel, ← closed.surveyDuration, ← clock]
    exact survey_next (by rwa [kind]) (closed.surveyPhase.trans waiting)
  case sequence =>
    intro free
    rw [← closed.surveyPhase] at free
    rw [← clock]
    refine ⟨fun pending => ?_, fun pending => ?_⟩
    · rw [pendingPlan_next operating' free (by rwa [closed.pendingPlan]), hplan, closed.pendingPlan, closed.plan]
    · have pending' : u.dwells.pendingPlan = none := closed.pendingPlan.trans pending
      obtain rfl : plan = u.dwells.plan := by
        rw [hplan, pending, closed.plan]
        rfl
      rw [← kind, ← closed.plan, ← closed.pointer] at ends
      rw [← closed.pointer, ← closed.forceOperating, ← closed.group, ← kind]
      obtain rfl : size = u.dwells.plan.interleave.groupSize := hsize
      refine ⟨fun done operatingDwell => (cycle_next operating' (ends.2 (.inl ⟨operatingDwell, done⟩)) free pending').1,
        fun done offChannel => cycle_next operating' (ends.2 (.inr ⟨offChannel, done⟩)) free pending',
        fun place c from_pointer entry other passed => ?_⟩
      have goesOn : endsCycle u.dwells d'.kind = false := Bool.eq_false_iff.2 fun h => by
        rcases ends.1 h with ⟨_, done⟩ | ⟨_, done⟩
        · exact other (done c (List.mem_of_getElem? entry))
        · exact other (done place c from_pointer entry)
      exact ⟨sequence_operating operating' goesOn free pending',
        fun notOwed room => sequence_offChannel goesOn free pending' notOwed room
          (Dwells.upcoming_eq_some operating' from_pointer entry other passed)⟩
end

end

section
/-! PROOFS. SET_CHANNEL and the change of channel. -/

namespace Sys2Proof.Machine

/-! ### The requests that change nothing (R34) -/

theorem requestSetChannel_bad {c : Byte} (s : State) (h : c.toNat < 1 ∨ 13 < c.toNat) :
    requestSetChannel c s = refuse stBadArg s := by
  rw [requestSetChannel, not_isChannel h]
  rfl

section
variable {c : Byte} {s : State} (low : 1 ≤ c.toNat) (high : c.toNat ≤ 13)
include low high

theorem requestSetChannel_same (same : s.dwells.operating = some c.toNat) :
    requestSetChannel c s = (s, [stOk, 0]) := by
  rw [requestSetChannel, (isChannel_iff _).2 ⟨low, high⟩, if_pos same]
  rfl

theorem requestSetChannel_new (new : s.dwells.operating ≠ some c.toNat) :
    requestSetChannel c s = (reform (changeChannel c.toNat s), [stOk, byteOf s.planner.queue.length]) := by
  rw [requestSetChannel, (isChannel_iff _).2 ⟨low, high⟩, if_neg new]
  rfl

end

/-! ### The change of channel, block by block (R35, R80, R147) -/

/-- The RUNNING series are rebased in order of id over an emptied queue (R147). -/
theorem rebaseForChannel_eq (s : State) :
    rebaseForChannel s =
      ([0, 1, 2, 3].filter (fun id => decide (∃ x ∈ s.planner.series, x.state = .running ∧ x.id = id))).foldl
        (fun v id => rebase id .channel v) (s.withQueue []) := by
  have running : (fun i => ((s.planner.series.filter (fun x => decide (x.state = .running))).map Series.id).contains i)
      = fun id => decide (∃ x ∈ s.planner.series, x.state = .running ∧ x.id = id) := by
    funext id
    rw [Bool.eq_iff_iff]
    simp only [List.contains_iff_mem, List.mem_map, List.mem_filter, decide_eq_true_eq, and_assoc]
  unfold rebaseForChannel
  dsimp only
  rw [running]
  rfl

theorem cutDwell_survey {s : State} (h : ∀ d, s.dwells.current = some d → d.kind = .survey) : cutDwell s = s := by
  unfold cutDwell
  split
  · rfl
  · rw [h _ ‹_›]

/-- Any other dwell is closed, and the next one started (R35). -/
theorem cutDwell_other {s : State} {d : Dwell} (current : s.dwells.current = some d) (other : d.kind ≠ .survey) :
    cutDwell s = startNextDwell false (closeDwell s) := by
  simp only [cutDwell, current]
  cases kind : d.kind with
  | survey => exact absurd kind other
  | operating => rfl
  | offChannel => rfl

/-! ### The candidates freed (R80) -/

/-- The freeing of the entry of an id if it is a candidate. -/
def freeIfCandidate (s : State) (id : Nat) : State :=
  if (s.tracker id).state = .candidate then freeTracker id .channel s else s

theorem freeCandidates_foldl (s : State) : freeCandidates s = trackerIds.foldl freeIfCandidate s := rfl

/-- An entry that is a candidate afterwards was one before, and is not the one freed. -/
theorem candidate_of_freeIfCandidate {s : State} {id j : Nat}
    (left : ((freeIfCandidate s id).tracker j).state = .candidate) : (s.tracker j).state = .candidate ∧ j ≠ id := by
  unfold freeIfCandidate at left
  by_cases candidate : (s.tracker id).state = .candidate
  · have bound : id < s.tracking.entries.length := by
      by_contra beyond
      rw [State.tracker, List.getD_eq_getElem?_getD, List.getElem?_eq_none (Nat.not_lt.1 beyond)] at candidate
      cases candidate
    have written : (freeTracker id .channel s).tracker j = if j = id then Tracker.free else s.tracker j :=
      State.setTracker_tracker bound _ j
    rw [if_pos candidate, written] at left
    by_cases own : j = id
    · rw [if_pos own] at left
      cases left
    · rw [if_neg own] at left
      exact ⟨left, own⟩
  · rw [if_neg candidate] at left
    exact ⟨left, fun own => candidate (own ▸ left)⟩

theorem candidate_of_foldl_freeIfCandidate {ids : List Nat} {s : State} {j : Nat}
    (left : ((ids.foldl freeIfCandidate s).tracker j).state = .candidate) :
    (s.tracker j).state = .candidate ∧ j ∉ ids := by
  induction ids generalizing s with
  | nil => exact ⟨left, List.not_mem_nil⟩
  | cons id ids ih =>
    obtain ⟨before, others⟩ := ih left
    obtain ⟨first, own⟩ := candidate_of_freeIfCandidate before
    exact ⟨first, List.not_mem_cons_of_ne_of_not_mem own others⟩

/-- Whatever the size of the table, no candidate is left in it. -/
theorem freeCandidates_none_left (s : State) {id : Nat} (h : id < 12) :
    ((freeCandidates s).tracker id).state ≠ .candidate := fun left =>
  (candidate_of_foldl_freeIfCandidate (freeCandidates_foldl s ▸ left)).2
    (by rw [trackerIds_eq]; exact List.mem_range.2 h)

/-- Of a table of twelve every candidate is freed and reported, by rising id. -/
theorem freeCandidates_all {s : State} (h : s.tracking.entries.length = 12) :
    freeCandidates s = { s with
      tracking := { s.tracking with
        entries := s.tracking.entries.map (fun e => if e.state = .candidate then Tracker.free else e) }
      link := (List.range 12).foldl (fun l id =>
        if (s.tracker id).state = .candidate then
          l.hand .tracker [byteOf id, (s.tracker id).kind.code, 1, 0, 12]
        else l) s.link } := by
  rw [freeCandidates_eq h, State.changed_all h]
  simp only [decide_eq_true_eq]

/-! ### The dwell at a change of channel (R35, R37, R46) -/

/-- What a dwell cut by a change of channel leaves when an operating dwell is owed from the start of the scan list. -/
theorem cutDwell_cut {v : State} {d : Dwell} {o : Nat} (current : v.dwells.current = some d) (other : d.kind ≠ .survey)
    (operating : v.dwells.operating = some o) (owed : v.dwells.forceOperating = true) (pointer : v.dwells.pointer = 0) :
    ∃ (u : State) (d' : Dwell), DwellClosed v u d d' ∧ NextStarted u (cutDwell v) ∧
      (cutDwell v).dwells.current = some (Dwell.begun .operating o
        (v.dwells.pendingPlan.getD v.dwells.plan).operatingLength v.airClock) ∧
      (cutDwell v).dwells.pointer = 0 ∧ (cutDwell v).dwells.survey.phase = v.dwells.survey.phase := by
  obtain ⟨d', closed⟩ := closeDwell_closed current
  have clock := (closeDwell_air v).airClock
  rw [cutDwell_other current other]
  generalize closeDwell v = u at closed clock ⊢
  have operating' : u.dwells.operating = some o := closed.operating.trans operating
  have next := startNextDwell_operating operating' (plannedEnd := false) (.inl rfl)
    (.inr (.inl (closed.forceOperating.trans owed)))
  refine ⟨u, d', closed, startNextDwell_started operating' false, ?_, ?_,
    (startNextDwell_phase (.inl rfl)).trans closed.surveyPhase⟩
  · rw [next, closed.pendingPlan, closed.plan, clock]
  · rw [next, closed.pointer, pointer]
    exact ite_self 0

end Sys2Proof.Machine

section
open Sys2Proof Sys2Proof.Machine

/-- Settles O21: block by block, in the order of the change of channel. -/
theorem setChannelChangesTheOperatingChannel : Obligations.SetChannelChangesTheOperatingChannel := by
  refine fun t c s ready => ⟨fun bad => ?_, fun low high same => ?_, fun low high new ids v plan freed hids hv hplan hfreed => ?_⟩
  · rw [setChannel_served ready, requestSetChannel_bad s bad]
    rfl
  · rw [setChannel_served ready, requestSetChannel_same low high same]
    rfl
  have rebased : v = rebaseForChannel (takeChannel c.toNat s) := by
    rw [hv, hids, rebaseForChannel_eq]
    rfl
  have step : PlannerStep (takeChannel c.toNat s) v := by
    rw [rebased]
    exact rebaseForChannel_plannerStep _
  have dwells : v.dwells = (takeChannel c.toNat s).dwells := step.dwells
  have clock : v.airClock = s.airClock := step.airClock
  have current : v.dwells.current = s.dwells.current := (congrArg Dwells.current dwells :)
  obtain rfl : freed = Tracker.free := hfreed
  have changed : changeChannel c.toNat s = planChange (freeCandidates (cutDwell v)) := by rw [changeChannel, rebased]
  refine ⟨cutDwell v, reform (planChange (freeCandidates (cutDwell v))), ?taken, cutDwell_air v, ?survey, ?cut, ?table,
    ?dwells, ?candidates, reform_formed _⟩
  case taken =>
    rw [setChannel_served ready, requestSetChannel_new low high new, changed]
    rfl
  case survey =>
    intro survey
    rw [← current] at survey
    exact cutDwell_survey survey
  case cut =>
    intro d inProgress other
    obtain ⟨u, d', closed, started, began, pointer, phase⟩ := cutDwell_cut (v := v) (o := c.toNat)
      (current.trans inProgress) other (by rw [dwells]; rfl) (by rw [dwells]; rfl) (by rw [dwells]; rfl)
    have pending : u.dwells.pendingPlan = s.dwells.pendingPlan := by rw [closed.pendingPlan, dwells]; rfl
    have used : u.dwells.plan = s.dwells.plan := by rw [closed.plan, dwells]; rfl
    have records : v.dwells.records = s.dwells.records := by rw [dwells]; rfl
    have record : v.channelRecord d.channel = s.channelRecord d.channel := by
      rw [State.channelRecord, records]
      rfl
    refine ⟨d', closed.uncounted, ?records, ?current, ?plan, (congrArg Dwells.pendingPlan started.dwells :), pointer,
      ?advice, ?phase, ?tuned, started.held.trans closed.held, fun held quiet settled => ?nothing⟩
    case records =>
      rw [started.dwells, ← records, ← record, ← clock]
      exact closed.records
    case current =>
      rw [began, ← closed.pendingPlan, ← closed.plan, pending, used, ← hplan, clock]
      rfl
    case plan =>
      rw [started.dwells, hplan, ← pending, ← used]
    case advice =>
      rw [started.dwells]
      exact closed.advice.trans (by rw [dwells]; rfl)
    case phase =>
      rw [phase, dwells]
      rfl
    case tuned =>
      rw [started.tuned, began]
      rfl
    case nothing =>
      have sense : v.sense = s.sense := step.sense
      have tracking : v.tracking = s.tracking := step.tracking
      have tracker (id : Nat) : v.tracker id = s.tracker id := by
        rw [State.tracker, tracking]
        rfl
      obtain ⟨counts, htracking, hplanner, hescalation, hcontrol, hlink, _⟩ :=
        closed.nothing (by rw [sense]; exact held) (by rw [sense]; exact quiet)
          (fun id bound => by rw [tracker]; exact settled id bound)
      rw [started.others]
      exact ⟨counts, htracking.trans tracking, hplanner, hlink, hcontrol.trans step.control,
        hescalation.trans step.escalation⟩
  case table =>
    intro size
    have size' : (cutDwell v).tracking.entries.length = 12 := by
      rw [(cutDwell_air v).size, step.tracking]
      exact size
    rw [freeCandidates_all size']
  case dwells =>
    rw [reform_dwells, (planChange_plannerStep _).dwells, (freeCandidates_trackingStep _).dwells]
  case candidates =>
    intro id bound
    have kept : (reform (planChange (freeCandidates (cutDwell v)))).tracker id = (freeCandidates (cutDwell v)).tracker id := by
      rw [State.tracker, reform_tracking, (planChange_plannerStep _).tracking]
      rfl
    rw [kept]
    exact freeCandidates_none_left _ bound
end

end

section
/-! PROOFS. The tracker table under every step: what may replace an entry, and what the tracking unit does to the table. -/

namespace Sys2Proof.Machine

/-! ### What may stand in the place of an entry (R58, R59) -/

/-- An entry that may replace another in a sound table: sound when the old one is, and a BEACON entry in use only in the
place of one. -/
structure Tracker.Follows (x y : Tracker) : Prop where
  sound : x.sound → y.sound
  beacon : y.kind = .beacon → y.state ≠ .free → x.kind = .beacon ∧ x.state ≠ .free

theorem Tracker.Follows.trans {x y z : Tracker} (h : x.Follows y) (h' : y.Follows z) : x.Follows z :=
  ⟨h'.sound ∘ h.sound, fun kind used => (h'.beacon kind used).elim h.beacon⟩

/-- An entry of the same kind and state. -/
theorem Tracker.Follows.of_same {x y : Tracker} (kind : y.kind = x.kind) (state : y.state = x.state)
    (sound : x.sound → y.sound) : x.Follows y :=
  ⟨sound, fun beacon used => ⟨kind ▸ beacon, state ▸ used⟩⟩

/-- An OVEN entry may replace any other. -/
theorem Tracker.Follows.of_oven {x y : Tracker} (kind : y.kind = .oven) (sound : y.sound) : x.Follows y :=
  ⟨fun _ => sound, fun beacon => nomatch kind.symm.trans beacon⟩

theorem Tracker.Follows.refl (x : Tracker) : x.Follows x := .of_same rfl rfl id

theorem TrackerState.associates_iff (st : TrackerState) :
    st.associates = true ↔ st = .acquiring ∨ st = .locked ∨ st = .dormant := by
  cases st <;> simp [TrackerState.associates]

theorem spanInsert_ne_nil (c : Nat) (span : List Nat) : spanInsert c span ≠ [] := by
  cases span with
  | nil => exact List.cons_ne_nil _ _
  | cons d ds =>
    rw [spanInsert]
    split
    · exact List.cons_ne_nil _ _
    · split <;> exact List.cons_ne_nil _ _

/-- The channel of a record joins the span of an OVEN entry alone (R62). -/
theorem Tracker.withChannel_eq (x : Tracker) (c : Nat) :
    x.withChannel c = { x with span := if x.kind = .beacon then x.span else spanInsert c x.span } := by
  obtain ⟨kind⟩ := x
  cases kind <;> rfl

/-! ### Fields replaced -/

section
variable (x : Tracker)

theorem Tracker.free_sound : Tracker.free.sound := by
  simp [Tracker.sound, Tracker.free]

theorem Tracker.free_follows : x.Follows Tracker.free := .of_oven rfl Tracker.free_sound

theorem Tracker.withRun_follows {n : Nat} (h : n ≤ 15) : x.Follows { x with run := n } :=
  .of_same rfl rfl fun ⟨_, rest⟩ => ⟨h, rest⟩

theorem Tracker.withMisses_follows {n : Nat} (h : n ≤ 31) : x.Follows { x with misses := n } :=
  .of_same rfl rfl fun ⟨run, _, rest⟩ => ⟨run, h, rest⟩

theorem Tracker.withSlips_follows {n : Nat} (h : n ≤ 15) : x.Follows { x with slips := n } :=
  .of_same rfl rfl fun ⟨run, misses, _, rest⟩ => ⟨run, misses, h, rest⟩

theorem Tracker.withHits_follows {n : Nat} (h : n ≤ 65535) : x.Follows { x with hits := n } :=
  .of_same rfl rfl fun ⟨run, misses, slips, _, rest⟩ => ⟨run, misses, slips, h, rest⟩

/-- The state of an entry that predicts may change to any other: its period and on-duration lie in their ranges. -/
theorem Tracker.withState_follows (h : x.state.associates = true) (st : TrackerState) :
    x.Follows { x with state := st } := by
  have used : x.state ≠ .free := by rintro free; rw [free] at h; cases h
  refine ⟨?_, fun beacon _ => ⟨beacon, used⟩⟩
  rintro ⟨run, misses, slips, hits, span, fits⟩
  exact ⟨run, misses, slips, hits, fun oven _ => span oven used,
    fun oven _ => fits oven (x.state.associates_iff.1 h)⟩

/-- An entry that predicts goes back to ACQUIRING with another run (R66). -/
theorem Tracker.revived_follows (h : x.state.associates = true) {n : Nat} (run : n ≤ 15) :
    x.Follows { x with state := .acquiring, run := n } :=
  (x.withState_follows h .acquiring).trans (Tracker.withRun_follows _ run)

/-- An entry that predicts is demoted by a slip overflow (R97). -/
theorem Tracker.overflowed_follows (h : x.state.associates = true) :
    x.Follows { x with state := .acquiring, run := 0, slips := 0, slipOverflow := true } :=
  ((x.revived_follows h (Nat.zero_le _)).trans (Tracker.withSlips_follows _ (Nat.zero_le _))).trans (.of_same rfl rfl id)

/-- A channel joins the span (R62). -/
theorem Tracker.withChannel_follows (c : Nat) : x.Follows (x.withChannel c) := by
  rw [Tracker.withChannel_eq]
  refine .of_same rfl rfl ?_
  rintro ⟨run, misses, slips, hits, span, fits⟩
  refine ⟨run, misses, slips, hits, fun oven used => ?_, fits⟩
  dsimp only at oven ⊢
  rw [if_neg (by rw [oven]; decide)]
  exact spanInsert_ne_nil c _

end

/-! ### Entries put to sleep, unanchored and demoted (R72 to R76, R86, R156) -/

section
variable {x : Tracker}

/-- An entry that predicts becomes DORMANT (R73, R74). -/
theorem Tracker.asDormant_follows (h : x.state.associates = true) : x.Follows x.asDormant :=
  ((x.withState_follows h .dormant).trans (Tracker.withMisses_follows _ (Nat.zero_le _))).trans (.of_same rfl rfl id)

/-- An entry that predicts becomes ACQUIRING and unanchored (R74, R76). -/
theorem Tracker.asUnanchored_follows (h : x.state.associates = true) : x.Follows x.asUnanchored :=
  (((x.withState_follows h .acquiring).trans (Tracker.withRun_follows _ (Nat.zero_le _))).trans
    (Tracker.withMisses_follows _ (Nat.zero_le _))).trans (.of_same rfl rfl id)

/-- RELEARN demotes a LOCKED entry (R156). -/
theorem Tracker.relearned_follows (h : x.state = .locked) (now : Instant) : x.Follows (x.relearned now) :=
  (((x.withState_follows (by rw [h]; rfl) .acquiring).trans (Tracker.withRun_follows _ (Nat.zero_le _))).trans
    (Tracker.withMisses_follows _ (Nat.zero_le _))).trans (.of_same rfl rfl id)

/-- What a warm restart leaves of an entry (R86). -/
theorem Tracker.warm_follows (x : Tracker) : x.Follows x.warm := by
  have kept (h : x.state.associates = true) : x.Follows x.keptDormant :=
    ((Tracker.asDormant_follows h).trans (Tracker.withRun_follows _ (Nat.zero_le _))).trans
      (Tracker.withSlips_follows _ (Nat.zero_le _))
  unfold Tracker.warm
  split
  case h_1 => exact x.free_follows
  case h_2 => exact x.free_follows
  case h_3 st =>
    split
    · exact x.free_follows
    · exact (Tracker.asUnanchored_follows (by rw [st]; rfl)).trans (Tracker.withSlips_follows _ (Nat.zero_le _))
  case h_4 st => exact kept (by rw [st]; rfl)
  case h_5 st => exact kept (by rw [st]; rfl)

end

/-! ### Absorption and hits (R62, R64, R90 to R97) -/

/-- A value clamped between natural bounds lies between them. -/
theorem toNat_clamp_range (lo hi : Nat) (h : lo ≤ hi) (v : Int) :
    lo ≤ (clamp lo hi v).toNat ∧ (clamp lo hi v).toNat ≤ hi := by
  rw [clamp_eq _ _ _ (by exact_mod_cast h)]
  omega

section
variable (x : Tracker) (r : BurstRecord)

/-- An on-duration in its range, or the one it was (R95). -/
theorem Tracker.withDuration_follows {n : Nat} (h : n = x.onDuration ∨ 2000 ≤ n ∧ n ≤ 14000) :
    x.Follows { x with onDuration := n } := by
  rcases h with rfl | h
  · exact .refl x
  · refine .of_same rfl rfl ?_
    rintro ⟨run, misses, slips, hits, span, fits⟩
    exact ⟨run, misses, slips, hits, span, fun oven predicts =>
      have fit := fits oven predicts
      ⟨fit.1, fit.2.1, h⟩⟩

/-- A period in its range, or the one it was (R94). -/
theorem Tracker.withPeriod_follows {n : Nat} (h : n = x.period ∨ 240000 ≤ n ∧ n ≤ 336000) :
    x.Follows { x with period := n } := by
  rcases h with rfl | h
  · exact .refl x
  · refine .of_same rfl rfl ?_
    rintro ⟨run, misses, slips, hits, span, fits⟩
    exact ⟨run, misses, slips, hits, span, fun oven predicts =>
      have fit := fits oven predicts
      ⟨h.1, h.2, fit.2.2⟩⟩

theorem smoothDuration_range (d u : Nat) : 2000 ≤ smoothDuration d u ∧ smoothDuration d u ≤ 14000 :=
  toNat_clamp_range 2000 14000 (by decide) _

theorem extendDuration_follows : x.Follows (extendDuration x r) := by
  unfold extendDuration
  split
  · split
    · exact x.withDuration_follows (.inr (smoothDuration_range _ _))
    · exact .refl x
  · exact .refl x

theorem absorb_follows : x.Follows (absorb x r) := by
  have grown := x.withChannel_follows r.channel
  unfold absorb
  dsimp only
  split
  · split
    · exact grown.trans (extendDuration_follows _ r)
    · exact grown
  · exact grown

theorem hitPeriod_range (locked : Bool) :
    hitPeriod x r locked = x.period ∨ 240000 ≤ hitPeriod x r locked ∧ hitPeriod x r locked ≤ 336000 := by
  unfold hitPeriod
  split
  · exact .inr (toNat_clamp_range 240000 336000 (by decide) _)
  · exact .inl rfl

theorem hitDuration_range :
    hitDuration x r = x.onDuration ∨ 2000 ≤ hitDuration x r ∧ hitDuration x r ≤ 14000 := by
  unfold hitDuration
  split
  · split
    · exact .inl rfl
    · exact .inr (smoothDuration_range _ _)
  · exact .inl rfl

theorem hitUpdate_follows (locked : Bool) : x.Follows (hitUpdate x r locked) :=
  ((x.withPeriod_follows (hitPeriod_range x r locked)).trans
    (Tracker.withDuration_follows _ (hitDuration_range x r))).trans (.of_same rfl rfl id)

theorem hitRun_le : hitRun x r ≤ 15 := by
  unfold hitRun
  split
  · exact saturate_le _ _
  · exact Nat.zero_le _

theorem hitBookkeeping_follows (now : Instant) : x.Follows (hitBookkeeping x r now) :=
  ((x.withMisses_follows (Nat.zero_le _)).trans (Tracker.withHits_follows _ (saturate_le _ x.hits))).trans
    (.of_same rfl rfl id)

/-- The entry that an anchoring leaves (R63). -/
theorem anchorBeacon_follows (now : Instant) : x.Follows (anchorBeacon x r now) :=
  (((x.withRun_follows (by decide : 1 ≤ 15)).trans (Tracker.withMisses_follows _ (Nat.zero_le _))).trans
    (Tracker.withHits_follows _ (saturate_le _ x.hits))).trans (.of_same rfl rfl id)

/-! ### Candidates (R67 to R69) -/

theorem newCandidate_follows : x.Follows (newCandidate r) :=
  .of_oven rfl (by simp [Tracker.sound, newCandidate, Tracker.free])

/-- The count of mains periods between two rises is the least of 1 to 4 at which their interval is that many periods of
15,000 to 21,000 µs (R67). -/
theorem cycleCount_eq_some {interval k : Nat} :
    cycleCount interval = some k ↔ 1 ≤ k ∧ k ≤ 4 ∧ 15000 * k ≤ interval ∧ interval ≤ 21000 * k ∧
      ∀ j, 1 ≤ j → j < k → ¬ (15000 * j ≤ interval ∧ interval ≤ 21000 * j) := by
  have listed : cycleCount interval =
      (List.range' 1 4).find? (fun k => decide (15000 * k ≤ interval ∧ interval ≤ 21000 * k)) := rfl
  rw [listed, List.find?_range'_eq_some]
  simp only [decide_eq_true_eq, Bool.not_eq_true', decide_eq_false_iff_not, List.mem_range'_1]
  constructor
  · rintro ⟨⟨low, high⟩, ⟨one, four⟩, first⟩
    exact ⟨one, by omega, low, high, first⟩
  · rintro ⟨one, four, low, high, first⟩
    exact ⟨⟨low, high⟩, ⟨one, by omega⟩, first⟩

/-- A promoted period lies within R59's range. -/
theorem promotedPeriod_range {interval k : Nat} (h : cycleCount interval = some k) :
    240000 ≤ promotedPeriod interval k ∧ promotedPeriod interval k ≤ 336000 := by
  obtain ⟨pos, _, low, high, _⟩ := cycleCount_eq_some.1 h
  unfold promotedPeriod
  have divisor : 0 < 2 * k := by omega
  exact ⟨(Nat.le_div_iff_mul_le divisor).2 (by omega), Nat.le_of_lt_succ ((Nat.div_lt_iff_lt_mul divisor).2 (by omega))⟩

theorem promoted_follows {k : Nat} (h : cycleCount (Instant.elapsed x.rise r.start) = some k) (now : Instant) :
    x.Follows (promoted x r k now) := by
  obtain ⟨low, high⟩ := promotedPeriod_range h
  refine .of_oven rfl ⟨Nat.one_le_ofNat, Nat.zero_le _, Nat.zero_le _, Nat.one_le_ofNat,
    fun _ _ => spanInsert_ne_nil _ _, fun _ _ => ⟨low, high, ?_⟩⟩
  show 2000 ≤ clampNat 2000 14000 r.duration ∧ clampNat 2000 14000 r.duration ≤ 14000
  rw [clampNat_eq _ _ _ (by decide)]
  omega

end

end Sys2Proof.Machine
end

section
/-! PROOFS. The tracker table sound under the operations of the tracking unit. -/

namespace Sys2Proof.Machine

/-! ### A table kept sound -/

/-- The tracker table is sound after whenever it was before. -/
def TableKept (s t : State) : Prop := TrackingSound s → TrackingSound t

theorem TableKept.refl (s : State) : TableKept s s := id

theorem TableKept.trans {s t u : State} (h : TableKept s t) (h' : TableKept t u) : TableKept s u := h' ∘ h

/-- The table alone counts. -/
theorem TableKept.of_eq {s t : State} (h : t.tracking = s.tracking) : TableKept s t := by
  unfold TableKept TrackingSound beaconCount
  rw [h]
  exact id

theorem PlannerStep.tableKept {s t : State} (h : PlannerStep s t) : TableKept s t := .of_eq h.tracking

/-- The number of BEACON entries, as a count (R58). -/
theorem beaconCount_eq (s : State) :
    beaconCount s = s.tracking.entries.countP (fun x => decide (x.kind = .beacon ∧ x.state ≠ .free)) :=
  List.countP_eq_length_filter.symm

/-- An entry replaced: a sound one in its place, and no more than 4 BEACON entries. -/
theorem setTracker_sound {s : State} {id : Nat} {y : Tracker} (sound : TrackingSound s) (entry : y.sound)
    (beacons : beaconCount (s.setTracker id y) ≤ 4) : TrackingSound (s.setTracker id y) := by
  obtain ⟨size, _, lockRun, entries⟩ := sound
  refine ⟨(List.length_set ..).trans size, beacons, lockRun, fun x mem => ?_⟩
  rcases List.mem_or_eq_of_mem_set mem with old | rfl
  · exact entries x old
  · exact entry

/-- The BEACON entries after a write. -/
theorem beaconCount_setTracker {s : State} {id : Nat} (bound : id < s.tracking.entries.length) (y : Tracker) :
    beaconCount (s.setTracker id y) =
      beaconCount s - (if (s.tracker id).kind = .beacon ∧ (s.tracker id).state ≠ .free then 1 else 0) +
        (if y.kind = .beacon ∧ y.state ≠ .free then 1 else 0) := by
  simp only [beaconCount_eq, State.setTracker_tracking, List.countP_set bound, decide_eq_true_eq, State.tracker_eq bound]

/-- A write beyond the table changes nothing. -/
theorem setTracker_beyond {s : State} {id : Nat} (h : s.tracking.entries.length ≤ id) (y : Tracker) :
    s.setTracker id y = s := by
  rw [State.setTracker, List.set_eq_of_length_le h]
  rfl

theorem State.tracker_mem {s : State} {id : Nat} (bound : id < s.tracking.entries.length) :
    s.tracker id ∈ s.tracking.entries := State.tracker_eq bound ▸ List.getElem_mem bound

/-- An entry in use lies in the table. -/
theorem State.tracker_bound {s : State} {id : Nat} (used : (s.tracker id).state ≠ .free) :
    id < s.tracking.entries.length := by
  by_contra beyond
  rw [State.tracker, List.getD_eq_getElem?_getD, List.getElem?_eq_none (Nat.not_lt.1 beyond)] at used
  exact used rfl

/-- A write adds no more than one BEACON entry. -/
theorem beaconCount_setTracker_le (s : State) (id : Nat) (y : Tracker) :
    beaconCount (s.setTracker id y) ≤ beaconCount s + 1 := by
  by_cases bound : id < s.tracking.entries.length
  · rw [beaconCount_setTracker bound]
    split <;> split <;> omega
  · rw [setTracker_beyond (Nat.not_lt.1 bound)]
    exact Nat.le_succ _

/-- And none in place of an entry that it may follow. -/
theorem beaconCount_follows {s : State} {id : Nat} {y : Tracker} (h : (s.tracker id).Follows y) :
    beaconCount (s.setTracker id y) ≤ beaconCount s := by
  by_cases bound : id < s.tracking.entries.length
  · rw [beaconCount_setTracker bound]
    by_cases new : y.kind = .beacon ∧ y.state ≠ .free
    · have old := h.beacon new.1 new.2
      have counted : 0 < beaconCount s := by
        rw [beaconCount_eq, List.countP_pos_iff]
        exact ⟨_, State.tracker_mem bound, decide_eq_true old⟩
      rw [if_pos old, if_pos new]
      omega
    · rw [if_neg new]
      omega
  · rw [setTracker_beyond (Nat.not_lt.1 bound)]

/-- An entry replaced by one that may stand in its place. -/
theorem setTracker_tableKept {s : State} {id : Nat} {y : Tracker} (h : (s.tracker id).Follows y) :
    TableKept s (s.setTracker id y) := by
  intro sound
  by_cases bound : id < s.tracking.entries.length
  · exact setTracker_sound sound (h.sound (sound.2.2.2 _ (State.tracker_mem bound)))
      ((beaconCount_follows h).trans sound.2.1)
  · rw [setTracker_beyond (Nat.not_lt.1 bound)]
    exact sound

/-- Every entry replaced. -/
theorem mapEntries_tableKept {s t : State} {f : Tracker → Tracker} (follows : ∀ x : Tracker, x.Follows (f x))
    (h : t.tracking = { s.tracking with entries := s.tracking.entries.map f }) : TableKept s t := by
  rintro ⟨size, beacons, lockRun, entries⟩
  have length : t.tracking.entries.length = 12 := by rw [h]; exact (List.length_map ..).trans size
  refine ⟨length, ?_, by rw [h]; exact lockRun, ?_⟩
  · rw [beaconCount_eq] at beacons ⊢
    rw [h, List.countP_map]
    refine (List.countP_mono_left fun x _ beacon => ?_).trans beacons
    obtain ⟨kind, used⟩ := of_decide_eq_true beacon
    exact decide_eq_true ((follows x).beacon kind used)
  · rw [h]
    intro y mem
    obtain ⟨x, old, rfl⟩ := List.mem_map.1 mem
    exact (follows x).sound (entries x old)

/-- A fold that carries the mark of a notice. -/
theorem foldl_noticed_tableKept {α : Type} {f : Noticed → α → Noticed} (step : ∀ p x, TableKept p.1 (f p x).1)
    (xs : List α) (p : Noticed) : TableKept p.1 (xs.foldl f p).1 := by
  induction xs generalizing p with
  | nil => exact .refl _
  | cons x xs ih => exact (step p x).trans (ih _)

/-! ### The operations of the tracking unit -/

section
variable (id : Nat) (s : State)

/-- An entry replaced and reported. -/
theorem setAndReport_tableKept {y : Tracker} (h : (s.tracker id).Follows y) (k : TrackerKind) (old new : TrackerState)
    (cause : TrackerCause) : TableKept s (trackerReport id k old new cause (s.setTracker id y)) :=
  (setTracker_tableKept h).trans (.of_eq rfl)

theorem freeTracker_tableKept (cause : TrackerCause) : TableKept s (freeTracker id cause s) :=
  setAndReport_tableKept id s (Tracker.free_follows _) _ _ _ _

theorem dropPending_tableKept : TableKept s (dropPending id s) := setTracker_tableKept (.of_same rfl rfl fun h => h)

theorem planChangeIf_tableKept (b : Bool) : TableKept s (planChangeIf b s) := (planChangeIf_plannerStep b s).tableKept

/-- A miss, by the state of the entry (R74). -/
theorem miss_tableKept : TableKept s (miss id s).1 := by
  have counted := Tracker.withMisses_follows (s.tracker id) (saturate_le 31 (s.tracker id).misses)
  unfold miss
  dsimp only
  split
  case h_1 st =>
    split
    · refine setAndReport_tableKept id s (counted.trans (Tracker.asDormant_follows ?_)) _ _ _ _
      exact congrArg TrackerState.associates st
    · exact setTracker_tableKept counted
  case h_2 st =>
    split
    · split
      · exact freeTracker_tableKept id s _
      · refine setAndReport_tableKept id s (counted.trans (Tracker.asUnanchored_follows ?_)) _ _ _ _
        exact congrArg TrackerState.associates st
    · exact setTracker_tableKept counted
  all_goals exact setTracker_tableKept counted

theorem settleAsMiss_tableKept : TableKept s (settleAsMiss id s).1 :=
  (dropPending_tableKept id s).trans (miss_tableKept id _)

theorem retestRise_tableKept : TableKept s (retestRise id s).1 := by
  unfold retestRise
  dsimp only
  split
  · exact .refl s
  · split
    · split
      · exact setTracker_tableKept (.of_same rfl rfl fun h => h)
      · exact settleAsMiss_tableKept id s
    · exact dropPending_tableKept id s

theorem testNextRise_tableKept : TableKept s (testNextRise id s).1 := by
  have next : TableKept s (s.setTracker id { s.tracker id with nextRise := (s.tracker id).nextRise + 1 }) :=
    setTracker_tableKept (.of_same rfl rfl fun h => h)
  unfold testNextRise
  dsimp only
  split
  · split
    · rw [State.setTracker_setTracker]
      exact setTracker_tableKept (.of_same rfl rfl fun h => h)
    · exact next.trans (miss_tableKept id _)
  · exact next

theorem decideRise_tableKept : TableKept s (decideRise id s).1 := by
  unfold decideRise
  split
  · exact retestRise_tableKept id s
  · exact testNextRise_tableKept id s

/-- The age limit of a LOCKED or ACQUIRING entry (R75). -/
theorem ageTracker_tableKept : TableKept s (ageTracker id s).1 := by
  unfold ageTracker
  dsimp only
  split
  case h_1 st => exact setAndReport_tableKept id s (Tracker.asDormant_follows (by rw [st]; rfl)) _ _ _ _
  case h_2 st =>
    split
    · exact freeTracker_tableKept id s _
    · exact setAndReport_tableKept id s (Tracker.asUnanchored_follows (by rw [st]; rfl)) _ _ _ _
  all_goals exact .refl s

/-- The age limit of a DORMANT entry (R76). -/
theorem ageDormant_tableKept (st : (s.tracker id).state = .dormant) : TableKept s (ageDormant id s).1 := by
  unfold ageDormant
  dsimp only
  split
  · exact freeTracker_tableKept id s _
  · exact setAndReport_tableKept id s (Tracker.asUnanchored_follows (by rw [st]; rfl)) _ _ _ _

/-! ### A delivered record (R60 to R73) -/

variable (r : BurstRecord)

/-- A hit on an ACQUIRING entry (R64). -/
theorem acquiringHit_tableKept {t : Tracker} (ht : s.tracker id = t) (predicts : t.state.associates = true) :
    TableKept s (acquiringHit id t r s).1 := by
  have hit : (s.tracker id).Follows { (hitUpdate t r false).withChannel r.channel with run := hitRun t r } := by
    rw [ht]
    exact ((hitUpdate_follows t r false).trans (Tracker.withChannel_follows _ r.channel)).trans
      (Tracker.withRun_follows _ (hitRun_le t r))
  unfold acquiringHit
  dsimp only
  split
  · refine setAndReport_tableKept id s ((hit.trans (Tracker.withState_follows _ ?_ .locked)).trans
      (hitBookkeeping_follows _ r _)) _ _ _ _
    rw [Tracker.withChannel_eq]
    exact predicts
  · exact setTracker_tableKept (hit.trans (hitBookkeeping_follows _ r _))

/-- A hit on a LOCKED entry, with its slip test (R65, R96, R97). -/
theorem lockedHit_tableKept (predicts : (s.tracker id).state.associates = true) :
    TableKept s (lockedHit id (s.tracker id) r s).1 := by
  have hit := (hitUpdate_follows (s.tracker id) r true).trans (Tracker.withChannel_follows _ r.channel)
  have booked (t : Tracker) := hitBookkeeping_follows t r s.airClock
  unfold lockedHit
  dsimp only
  split
  · refine TableKept.trans (setTracker_tableKept
      ((hit.trans (Tracker.overflowed_follows _ ?_)).trans (booked _))) (.of_eq rfl)
    rw [Tracker.withChannel_eq]
    exact predicts
  · rename_i few
    refine setTracker_tableKept (.trans ?_ (booked _))
    split
    · rename_i slip
      have room : ¬ 15 ≤ (s.tracker id).slips := fun full => few (decide_eq_true ⟨slip, full⟩)
      exact hit.trans (Tracker.withSlips_follows _ (by omega))
    · exact hit

/-- A hit on a DORMANT entry: revived with a run below the lock run, then a hit on an ACQUIRING entry (R66). -/
theorem dormantHit_tableKept (st : (s.tracker id).state = .dormant) :
    TableKept s (dormantHit id (s.tracker id) r s).1 := by
  intro sound
  have bound : id < s.tracking.entries.length := State.tracker_bound (by rw [st]; decide)
  have run : s.tracking.settings.lockRun - 3 ≤ 15 := (Nat.sub_le _ _).trans sound.2.2.1
  have revived := setAndReport_tableKept id s ((s.tracker id).revived_follows (by rw [st]; rfl) run)
    (s.tracker id).kind .dormant .acquiring .revived
  exact acquiringHit_tableKept id _ r (State.setTracker_tracker_self bound _) rfl (revived sound)

theorem associate_tableKept : TableKept s (associate id r s).1 := by
  unfold associate
  dsimp only
  split
  · exact setTracker_tableKept (absorb_follows _ r)
  · split
    case h_1 st => exact acquiringHit_tableKept id s r rfl (by rw [st]; rfl)
    case h_2 st => exact lockedHit_tableKept id s r (by rw [st]; rfl)
    case h_3 st => exact dormantHit_tableKept id s r st
    all_goals exact .refl s

theorem tryAnchor_tableKept : TableKept s (tryAnchor r s).1 := by
  unfold tryAnchor
  split
  · exact setAndReport_tableKept _ s (anchorBeacon_follows _ r _) _ _ _ _
  · exact .refl s

theorem allocate_tableKept {s t : State} {id : Nat} (h : allocate s = some (t, id)) : TableKept s t := by
  unfold allocate at h
  split at h
  · cases h; exact .refl s
  · split at h
    · cases h; exact freeTracker_tableKept _ s _
    · cases h

/-- The place of a new entry is made by no more than an eviction (R71). -/
theorem allocate_beaconCount {s t : State} {id : Nat} (h : allocate s = some (t, id)) : beaconCount t ≤ beaconCount s := by
  unfold allocate at h
  split at h
  · cases h; exact Nat.le_refl _
  · split at h
    · cases h; exact beaconCount_follows (Tracker.free_follows _)
    · cases h

/-- A qualifying candidate has a count of mains periods to the record (R67). -/
theorem bestCandidate_qualifies {s : State} {r : BurstRecord} {ids : List Nat} {id : Nat}
    (h : bestCandidate s r ids = some id) : (s.tracker id).qualifies r s.airClock = true := by
  induction ids generalizing id with
  | nil => cases h
  | cons i ids ih =>
    unfold bestCandidate at h
    dsimp only at h
    split at h
    · rename_i own
      split at h
      · cases h; exact own
      · rename_i best
        split at h
        · cases h; exact ih best
        · cases h; exact own
    · exact ih h

theorem candidateTest_tableKept : TableKept s (candidateTest r s).1 := by
  unfold candidateTest
  split
  · split
    · rename_i id best
      have qualifies := bestCandidate_qualifies best
      rw [Tracker.qualifies, Bool.and_eq_true] at qualifies
      obtain ⟨k, count⟩ := Option.isSome_iff_exists.1 qualifies.2
      dsimp only
      rw [count]
      exact setAndReport_tableKept id s (promoted_follows _ r count _) _ _ _ _
    · split
      · exact (allocate_tableKept ‹_›).trans (setAndReport_tableKept _ _ (newCandidate_follows _ r) _ _ _ _)
      · exact .refl s
  · exact .refl s

theorem settleByRecord_tableKept (assoc : Option Nat) (p : Noticed) : TableKept p.1 (settleByRecord r assoc p id).1 := by
  unfold settleByRecord
  split
  · split
    · split
      · exact dropPending_tableKept id _
      · exact settleAsMiss_tableKept id _
    · exact .refl _
  · exact .refl _

theorem recordOutcome_tableKept : TableKept s (recordOutcome r s).1.1 := by
  unfold recordOutcome
  split
  · exact associate_tableKept _ s r
  · split
    · exact tryAnchor_tableKept s r
    · exact candidateTest_tableKept s r

/-- The tracking unit's taking of a record (R60, R73). -/
theorem trackRecord_tableKept : TableKept s (trackRecord r s).1 := by
  have settled := (recordOutcome_tableKept s r).trans (foldl_noticed_tableKept
    (fun p id => settleByRecord_tableKept id r (recordOutcome r s).2 p) trackerIds _)
  unfold trackRecord
  dsimp only
  exact settled.trans (planChangeIf_tableKept _ _)

theorem sweepEntry_tableKept (p : Noticed) : TableKept p.1 (sweepEntry p id).1 := by
  unfold sweepEntry
  split
  · split
    · exact .refl _
    · exact settleAsMiss_tableKept id _
  · exact .refl _

theorem sweepPending_tableKept : TableKept s (sweepPending s) := by
  have swept := foldl_noticed_tableKept (fun p id => sweepEntry_tableKept id p) trackerIds (s, false)
  unfold sweepPending
  exact swept.trans (planChangeIf_tableKept _ _)

/-! ### Changes from other blocks (R80, R82, R85, R86, R156) -/

theorem freeCandidates_tableKept : TableKept s (freeCandidates s) :=
  foldl_rel TableKept TableKept.refl TableKept.trans _
    (fun s id => by
      split
      · exact freeTracker_tableKept id s _
      · exact .refl s) _ s

theorem applyMissLimit_tableKept : TableKept s (applyMissLimit s) :=
  foldl_rel TableKept TableKept.refl TableKept.trans _
    (fun s id => by
      split
      · rename_i sleeps
        exact setAndReport_tableKept id s (Tracker.asDormant_follows (by rw [sleeps.1]; rfl)) _ _ _ _
      · exact .refl s) _ s

theorem dropAllPending_tableKept : TableKept s (dropAllPending s) :=
  mapEntries_tableKept (f := fun x => { x with pendingRise := none }) (fun _ => .of_same rfl rfl fun h => h) rfl

theorem relearnEntry_tableKept (p : Noticed) : TableKept p.1 (relearnEntry p id).1 := by
  unfold relearnEntry
  dsimp only
  split
  · rename_i demoted
    exact setAndReport_tableKept id p.1 (Tracker.relearned_follows demoted.2 _) _ _ _ _
  · exact .refl _

theorem relearn_tableKept : TableKept s (relearn s) := by
  have demoted := foldl_noticed_tableKept (fun p id => relearnEntry_tableKept id p) trackerIds (s, false)
  unfold relearn
  exact demoted.trans (planChangeIf_tableKept _ _)

/-- A table as a cold start leaves it: 12 FREE entries and the default lock run (R86). -/
theorem TrackingSound.of_cold {t : State} (h : t.tracking = Tracking.cold) : TrackingSound t := by
  unfold TrackingSound beaconCount
  rw [h]
  refine ⟨rfl, by decide, by decide, fun x mem => ?_⟩
  rw [List.eq_of_mem_replicate mem]
  exact Tracker.free_sound

end

end Sys2Proof.Machine
end

section
/-! PROOFS. The tracker table sound under every command: escalations, deliveries, dwells and requests. -/

namespace Sys2Proof.Machine

/-! ### Escalations (R155 to R157) -/

theorem changeMode_tracking (m : Mode) (s : State) : (changeMode m s).tracking = s.tracking :=
  (changeMode_plannerStep m s).tracking

theorem applyPolicy_tableKept (s : State) : TableKept s (applyPolicy s).1 := by
  unfold applyPolicy
  split
  · exact .refl s
  · dsimp only
    exact relearn_tableKept s
  · exact .of_eq (changeMode_tracking _ s)
  · exact .of_eq (changeMode_tracking _ s)

/-- Of what an escalation does, RELEARN alone changes the table (R156). -/
theorem escalationTest_tableKept (r : BurstRecord) (assoc : Option Nat) (s : State) :
    TableKept s (escalationTest r assoc s) := by
  have escalated (v : State) : TableKept v (escalate r v) :=
    applyPolicy_tableKept (v.withEscalation { v.escalation with score := 0 })
  unfold escalationTest countSurprise
  dsimp only
  split
  · split
    · exact escalated (s.withEscalation { s.escalation with score := saturate 15 s.escalation.score })
    · exact .of_eq rfl
  · exact .refl s

/-! ### Delivery, assembly and releases (R23 to R26, R28) -/

theorem deliver_tableKept (r : BurstRecord) (s : State) : TableKept s (deliver r s) :=
  ((trackRecord_tableKept s r).trans (escalationTest_tableKept r _ _)).trans (.of_eq rfl)

/-- A record delivered after a change of the sense receiver alone. -/
theorem deliver_after (r : BurstRecord) (s : State) (x : Sense) : TableKept s (deliver r (s.withSense x)) :=
  TableKept.trans (.of_eq rfl) (deliver_tableKept r (s.withSense x))

theorem hold_tableKept (r : BurstRecord) (s : State) : TableKept s (hold r s) := by
  unfold hold
  dsimp only
  split
  · exact deliver_after r s _
  · exact .of_eq rfl

theorem assemble_tableKept (r : BurstRecord) (s : State) : TableKept s (assemble r s) := by
  unfold assemble
  split
  · exact deliver_tableKept r s
  · split
    · exact hold_tableKept r s
    · split
      · exact hold_tableKept _ s
      · exact (deliver_after _ s _).trans (hold_tableKept _ _)

theorem releaseHeld_tableKept (s : State) : TableKept s (releaseHeld s) := by
  unfold releaseHeld
  split
  · exact deliver_after _ s _
  · exact .refl s

/-- The releases and settlements that follow an event of the sense receiver (R24, R73). -/
theorem followUp_tableKept (s : State) : TableKept s (sweepPending (releaseOverdue s)) := by
  refine TableKept.trans ?_ (sweepPending_tableKept _)
  unfold releaseOverdue
  split
  · split
    · exact releaseHeld_tableKept s
    · exact .refl s
  · exact .refl s

theorem cutLongBurst_tableKept (s : State) : TableKept s (cutLongBurst s) := by
  unfold cutLongBurst
  split
  · exact .refl s
  · exact (assemble_tableKept _ (restartDetection s)).trans (followUp_tableKept _)

theorem readInBurst_tableKept (below : Nat) (b : Burst) (i : Instant) (above : Bool) (s : State) :
    TableKept s (readInBurst below b i above s) := by
  unfold readInBurst
  split
  · exact .of_eq rfl
  · split
    · exact assemble_tableKept _ s.quiet
    · exact .of_eq rfl

theorem takeReading_tableKept (level : Int) (preamble : Bool) (s : State) :
    TableKept s (takeReading level preamble s) := by
  unfold takeReading
  refine TableKept.trans ?_ (followUp_tableKept _)
  split
  · exact .of_eq rfl
  · exact readInBurst_tableKept _ _ _ _ (s.withSense { s.sense with readingTaken := true })

theorem startBlanking_tableKept (s : State) : TableKept s (startBlanking s) := by
  by_cases inactive : s.sense.blanking = .inactive
  · cases det : s.sense.detector with
    | quiet run =>
      rw [startBlanking_quiet inactive det]
      exact followUp_tableKept (blanked s)
    | inBurst below b =>
      rw [startBlanking_burst inactive det]
      exact (assemble_tableKept _ (blanked s)).trans (followUp_tableKept _)
  · rw [startBlanking_again inactive]
    exact .of_eq rfl

theorem senseDwellEnd_tableKept (s : State) : TableKept s (senseDwellEnd s) := by
  have released : TableKept s (released s) := .of_eq rfl
  refine released.trans (TableKept.trans ?_ (sweepPending_tableKept _))
  split
  · exact .refl _
  · exact deliver_tableKept _ _
  · exact deliver_tableKept _ _
  · split
    · exact deliver_tableKept _ _
    · exact (deliver_tableKept _ _).trans (deliver_tableKept _ _)

/-! ### Dwells leave the table to the records they deliver (R35 to R46) -/

theorem startDwell_tracking (kind : DwellKind) (c len : Nat) (s : State) :
    (startDwell kind c len s).tracking = s.tracking := by
  rw [startDwell_eq, senseDwellStart_eq]
  rfl

theorem startOperating_tracking (s : State) : (startOperating s).tracking = s.tracking := by
  unfold startOperating
  split
  · rfl
  · exact startDwell_tracking _ _ _ _

theorem startSequenceDwell_tracking (s : State) : (startSequenceDwell s).tracking = s.tracking := by
  unfold startSequenceDwell
  split
  · exact startOperating_tracking s
  · split
    · exact startOperating_tracking s
    · exact startDwell_tracking _ _ _ _

theorem startNextDwell_tracking (plannedEnd : Bool) (s : State) : (startNextDwell plannedEnd s).tracking = s.tracking := by
  have plan : (applyPlan s).tracking = s.tracking := by rw [applyPlan_eq]; rfl
  unfold startNextDwell
  dsimp only
  split
  · exact (startDwell_tracking _ _ _ _).trans plan
  · exact (startSequenceDwell_tracking _).trans plan

theorem beginSequence_tracking (s : State) : (beginSequence s).tracking = s.tracking := by
  refine (startOperating_tracking _).trans ?_
  rw [applyPlan_eq]
  rfl

theorem updateRecord_tracking (d : Dwell) (s : State) : (updateRecord d s).tracking = s.tracking := by
  rw [updateRecord_eq]
  rfl

theorem afterDwell_tracking (d : Dwell) (s : State) : (afterDwell d s).tracking = s.tracking := by
  rw [afterDwell_changes]

theorem closeDwell_tableKept (s : State) : TableKept s (closeDwell s) := by
  refine (senseDwellEnd_tableKept s).trans ?_
  unfold closeDwell
  dsimp only
  split
  · exact .of_eq (updateRecord_tracking _ _)
  · exact .refl _

theorem endDwell_tableKept (s : State) : TableKept s (endDwell s) := by
  refine (closeDwell_tableKept s).trans (.of_eq ?_)
  unfold endDwell
  dsimp only
  rw [startNextDwell_tracking]
  split
  · exact afterDwell_tracking _ _
  · rfl

theorem cutDwell_tableKept (s : State) : TableKept s (cutDwell s) := by
  unfold cutDwell
  split
  · exact .refl s
  · split
    · exact .refl s
    · exact (closeDwell_tableKept s).trans (.of_eq (startNextDwell_tracking _ _))
    · exact (closeDwell_tableKept s).trans (.of_eq (startNextDwell_tracking _ _))

theorem changeChannel_tableKept (c : Nat) (s : State) : TableKept s (changeChannel c s) :=
  (((TableKept.of_eq (rebaseForChannel_plannerStep (takeChannel c s)).tracking).trans (cutDwell_tableKept _)).trans
    (freeCandidates_tableKept _)).trans (planChange_plannerStep _).tableKept

/-! ### Requests (R77, R78, R82, R85) -/

/-- A check that refuses the request leaves the state as it is (R188). -/
theorem refuse_or_tableKept {b : Prop} [Decidable b] {status : Byte} {s : State} {a : Answer}
    (h : ¬ b → TableKept s a.1) : TableKept s (if b then refuse status s else a).1 := by
  split
  · exact .refl s
  · exact h ‹_›

theorem Tracker.declaredBeacon_sound (channel interval airtime : Nat) :
    (declaredBeacon channel interval airtime).sound := by
  simp [Tracker.sound, declaredBeacon, Tracker.free]

/-- A BEACON entry is declared only where fewer than 4 stand (R77). -/
theorem requestDeclareBeacon_tableKept (c : Byte) (i a : Half) (s : State) :
    TableKept s (requestDeclareBeacon c i a s).1 := by
  refine refuse_or_tableKept fun _ => refuse_or_tableKept fun few => ?_
  split
  · exact .refl s
  · rename_i t id place
    have declared : TableKept s
        (t.setTracker id (declaredBeacon c.toNat (timeCodeValue i) (timeCodeValue a))) := fun sound =>
      setTracker_sound (allocate_tableKept place sound) (Tracker.declaredBeacon_sound _ _ _) <| by
        have one := beaconCount_setTracker_le t id (declaredBeacon c.toNat (timeCodeValue i) (timeCodeValue a))
        have fewer := allocate_beaconCount place
        omega
    refine declared.trans ?_
    dsimp only
    refine TableKept.of_eq ?_
    rw [reform_tracking, (planChange_plannerStep _).tracking]
    rfl

theorem requestForget_tableKept (id : Byte) (s : State) : TableKept s (requestForget id s).1 := by
  refine refuse_or_tableKept fun _ => refuse_or_tableKept fun _ => (freeTracker_tableKept id.toNat s .forgotten).trans
    (.of_eq ?_)
  rw [reform_tracking, (planChangeIf_plannerStep _ _).tracking]

/-- The lock run is clamped to 3 to 15 (R81). -/
theorem trackSettings_lockRun (g b : Half) (r : Byte) (c : Half) (l m : Byte) :
    (trackSettings g b r c l m).lockRun ≤ 15 := by
  show clampNat 3 15 l.toNat ≤ 15
  rw [clampNat_eq _ _ _ (by decide)]
  omega

theorem requestSetTracking_tableKept (g b : Half) (r : Byte) (c : Half) (l m : Byte) (s : State) :
    TableKept s (requestSetTracking g b r c l m s).1 := by
  refine refuse_or_tableKept fun _ => ?_
  have applied : TableKept s (s.withTracking { s.tracking with settings := trackSettings g b r c l m }) :=
    fun ⟨size, beacons, _, entries⟩ => ⟨size, beacons, trackSettings_lockRun g b r c l m, entries⟩
  refine (applied.trans (applyMissLimit_tableKept _)).trans (.of_eq ?_)
  rw [reform_tracking]
  exact (planChange_plannerStep _).tracking

theorem requestSetChannel_tableKept (c : Byte) (s : State) : TableKept s (requestSetChannel c s).1 := by
  refine refuse_or_tableKept fun _ => ?_
  split
  · exact .refl s
  · exact (changeChannel_tableKept _ s).trans (.of_eq (reform_tracking _))

/-- STOP drops the pending rises and leaves the entries otherwise (R73, R85). -/
theorem requestStop_tableKept (s : State) : TableKept s (requestStop s).1 := by
  refine refuse_or_tableKept fun _ => ?_
  have before : (abortSurvey (abandonDwell (senseIdle (s.setMode .standby)))).tracking = s.tracking := by
    rw [abortSurvey_eq]
    rfl
  exact (TableKept.of_eq before).trans (dropAllPending_tableKept _)

theorem requestStart_tracking (mode : Byte) (s : State) : (requestStart mode s).1.tracking = s.tracking := by
  have checked (m : Mode) : (startChecked m s).1.tracking = s.tracking := by
    unfold startChecked
    split
    · rfl
    · split
      · rfl
      · exact beginSequence_tracking (s.setMode m)
  unfold requestStart
  split
  · exact checked _
  · split
    · exact checked _
    · rfl

theorem changeByRequest_tracking (m : Mode) (s : State) : (changeByRequest m s).1.tracking = s.tracking :=
  changeMode_tracking m s

theorem requestSetMode_tracking (mode : Byte) (s : State) : (requestSetMode mode s).1.tracking = s.tracking := by
  unfold requestSetMode
  split
  · rfl
  · split
    · rfl
    · split
      · rfl
      · split
        · unfold toFallback
          split
          · rfl
          · split
            · rfl
            · exact changeByRequest_tracking _ s
        · exact changeByRequest_tracking _ s

theorem requestResume_tracking (s : State) : (requestResume s).1.tracking = s.tracking := by
  unfold requestResume
  split
  · exact changeByRequest_tracking _ s
  · rfl

end Sys2Proof.Machine
end

section
/-! PROOFS. The tracker table sound under every command: the other requests, the link controller, restarts and the step. -/

namespace Sys2Proof.Machine

/-! ### Requests that leave the table alone -/

section
variable (s : State)

/-- A request that a check refuses leaves the table as one that passes it does. -/
theorem refuse_or_tracking {b : Prop} [Decidable b] {status : Byte} {a : Answer} (h : a.1.tracking = s.tracking) :
    (if b then refuse status s else a).1.tracking = s.tracking := by
  split
  · rfl
  · exact h

theorem requestClearFlags_tracking (f c : Byte) : (requestClearFlags f c s).1.tracking = s.tracking := by
  unfold requestClearFlags
  split <;> rfl

theorem requestRestart_tracking (k : Byte) : (requestRestart k s).1.tracking = s.tracking := by
  unfold requestRestart
  split
  · rfl
  · split <;> rfl

theorem requestSetDetect_tracking (th st : Byte) (tail gap : Half) :
    (requestSetDetect th st tail gap s).1.tracking = s.tracking := by
  refine refuse_or_tracking s ?_
  split <;> rfl

theorem serveSetScan_tracking (count : Byte) (rest : List Byte) : (serveSetScan count rest s).1.tracking = s.tracking := by
  unfold serveSetScan
  split
  · split
    · refine refuse_or_tracking s ?_
      split <;> rfl
    · rfl
  · rfl

theorem requestSurvey_tracking (c : Byte) (d : Half) : (requestSurvey c d s).1.tracking = s.tracking :=
  refuse_or_tracking s (refuse_or_tracking s (refuse_or_tracking s rfl))

theorem serveSetRules_tracking (count : Byte) (rest : List Byte) : (serveSetRules count rest s).1.tracking = s.tracking := by
  unfold serveSetRules
  split
  · split
    · refine refuse_or_tracking s ?_
      split
      · rfl
      · rw [reform_tracking]
        exact (planChange_plannerStep (replaceRules _ _ s)).tracking
    · rfl
  · rfl

theorem requestArmTemplate_tracking (m : Option Half) : (requestArmTemplate m s).1.tracking = s.tracking := by
  refine refuse_or_tracking s (refuse_or_tracking s ?_)
  split
  · rfl
  · exact (planChange_plannerStep (s.withTemplate _)).tracking

theorem requestBook_tracking (l t : Byte) (len e d : Half) : (requestBook l t len e d s).1.tracking = s.tracking := by
  unfold requestBook
  split
  · rfl
  · refine refuse_or_tracking s (refuse_or_tracking s (refuse_or_tracking s (refuse_or_tracking s ?_)))
    unfold bookSearch
    dsimp only
    split
    · rfl
    · split <;> rfl

theorem requestCancel_tracking (l t : Byte) : (requestCancel l t s).1.tracking = s.tracking := by
  unfold requestCancel
  split
  · rfl
  · refine refuse_or_tracking s ?_
    split <;> rfl

theorem requestSeriesOpen_tracking (l t : Byte) (p len j : Half) :
    (requestSeriesOpen l t p len j s).1.tracking = s.tracking := by
  unfold requestSeriesOpen
  split
  · rfl
  · refine refuse_or_tracking s (refuse_or_tracking s (refuse_or_tracking s (refuse_or_tracking s
      (refuse_or_tracking s ?_))))
    split
    · rfl
    · unfold seriesSearch
      split <;> rfl

theorem requestSeriesClose_tracking (l t : Byte) : (requestSeriesClose l t s).1.tracking = s.tracking := by
  unfold requestSeriesClose
  split
  · rfl
  · refine refuse_or_tracking s ?_
    split <;> rfl

theorem requestReadBookings_tracking (p : Byte) : (requestReadBookings p s).1.tracking = s.tracking := by
  unfold requestReadBookings
  split
  · rfl
  · split <;> rfl

theorem requestSetEscalation_tracking (th p : Byte) : (requestSetEscalation th p s).1.tracking = s.tracking := by
  unfold requestSetEscalation
  split <;> rfl

end

/-- Whatever a taken request answers, the table stays sound (R187). -/
theorem Served.tableKept {s : State} {a : Answer} (h : Served s a) : TableKept s a.1 := by
  cases h with
  | unchanged => exact .refl s
  | setReports e => exact .of_eq rfl
  | clearFlags f c => exact .of_eq (requestClearFlags_tracking s f c)
  | restart k => exact .of_eq (requestRestart_tracking s k)
  | start m => exact .of_eq (requestStart_tracking m s)
  | stop => exact requestStop_tableKept s
  | setMode m => exact .of_eq (requestSetMode_tracking m s)
  | resume => exact .of_eq (requestResume_tracking s)
  | setDetect th st tail gap => exact .of_eq (requestSetDetect_tracking s th st tail gap)
  | setScan count rest => exact .of_eq (serveSetScan_tracking s count rest)
  | setChannel c => exact requestSetChannel_tableKept c s
  | survey c d => exact .of_eq (requestSurvey_tracking s c d)
  | declareBeacon c i a => exact requestDeclareBeacon_tableKept c i a s
  | forget id => exact requestForget_tableKept id s
  | readTracker id => exact .of_eq (refuse_or_tracking s (refuse_or_tracking s rfl))
  | setTracking g b r c l m => exact requestSetTracking_tableKept g b r c l m s
  | setRules count rest => exact .of_eq (serveSetRules_tracking s count rest)
  | armTemplate m => exact .of_eq (requestArmTemplate_tracking s m)
  | dropTemplate => exact .of_eq (refuse_or_tracking s (refuse_or_tracking s rfl))
  | book l t len e d => exact .of_eq (requestBook_tracking s l t len e d)
  | cancel l t => exact .of_eq (requestCancel_tracking s l t)
  | seriesOpen l t p len j => exact .of_eq (requestSeriesOpen_tracking s l t p len j)
  | seriesClose l t => exact .of_eq (requestSeriesClose_tracking s l t)
  | setLanes a b => exact .of_eq (refuse_or_tracking s rfl)
  | readBookings p => exact .of_eq (requestReadBookings_tracking s p)
  | setEscalation th p => exact .of_eq (requestSetEscalation_tracking s th p)
  | clearFault => exact .of_eq rfl

/-! ### The link controller (R184 to R189) -/

section
variable (s : State)

theorem placeOrDrop_tracking (f : Frame) : (placeOrDrop f s).tracking = s.tracking := by
  unfold placeOrDrop
  split <;> rfl

theorem dropIfReceiving_tracking : (dropIfReceiving s).tracking = s.tracking := by
  unfold dropIfReceiving
  split <;> rfl

theorem receiveByte_tracking (b : Byte) : (receiveByte b s).tracking = s.tracking := by
  unfold receiveByte
  split
  case h_1 => split <;> rfl
  case h_2 => split <;> rfl
  all_goals rfl

/-- A transmitter offered what waits leaves the table alone. -/
theorem pump_tableKept : TableKept s (pump s) := .of_eq (pump_tracking s)

theorem takeFrame_tableKept (f : Frame) : TableKept s (takeFrame f s) :=
  (serve_served f s).tableKept.trans (.of_eq (pump_tracking _))

theorem takeFrames_tableKept (n : Nat) (s : State) : TableKept s (takeFrames n s) := by
  induction n generalizing s with
  | zero => exact .refl s
  | succ n ih =>
    unfold takeFrames
    split
    · exact .refl s
    · rename_i f rest _
      split
      · exact (takeFrame_tableKept (s.withLink { s.link with inbox := rest }) f).trans (ih _)
      · exact .refl s

theorem acceptFrame_tableKept (f : Frame) : TableKept s (acceptFrame f s) := by
  unfold acceptFrame
  split
  · exact takeFrames_tableKept _ (s.withLink { s.link with inbox := s.link.inbox ++ [f] })
  · exact .of_eq ((pump_tracking _).trans (placeOrDrop_tracking s _))

theorem requestArrives_tableKept (f : Frame) : TableKept s (requestArrives f s) := by
  unfold requestArrives
  split
  · exact .refl s
  · exact acceptFrame_tableKept s f

theorem judgeComplete_tableKept : TableKept s (judgeComplete s) := by
  unfold judgeComplete
  split
  · unfold judge rejectBadCrc
    dsimp only
    split
    · exact .of_eq rfl
    · split
      · split
        · exact .of_eq (pump_tracking _)
        · exact .of_eq rfl
      · split
        · exact .of_eq ((pump_tracking _).trans (placeOrDrop_tracking (huntAgain s) _))
        · exact acceptFrame_tableKept (huntAgain s) _
  · exact .refl s

theorem takeCharacter_tableKept (b : Byte) (stopHigh : Bool) : TableKept s (takeCharacter b stopHigh s) := by
  unfold takeCharacter
  split
  · exact .refl s
  · split
    · exact (judgeComplete_tableKept s).trans (.of_eq (receiveByte_tracking _ b))
    · exact (judgeComplete_tableKept s).trans (.of_eq (dropIfReceiving_tracking _))

/-! ### Restarts (R86, R178) -/

theorem warmRestart_tableKept (c : ModeCause) : TableKept s (warmRestart c s) :=
  mapEntries_tableKept Tracker.warm_follows rfl

theorem coldRestart_tableKept (c : ModeCause) : TableKept s (coldRestart c s) := fun _ => .of_cold rfl

theorem leaveReset_tracking (rxd txon : Bool) : (leaveReset rxd txon s).tracking = s.tracking := by
  unfold leaveReset
  split <;> rfl

theorem markedRestart_tableKept (kind : RestartKind) : TableKept s (markedRestart kind s) := by
  cases kind with
  | warm => exact warmRestart_tableKept s _
  | cold => exact coldRestart_tableKept s _

theorem breakRestart_tableKept : TableKept s (breakRestart s) := by
  unfold breakRestart
  split
  · exact coldRestart_tableKept (markBreakTaken s) _
  · exact warmRestart_tableKept (markBreakTaken s) _
  · exact warmRestart_tableKept (markBreakTaken s) _

theorem frameSent_tableKept : TableKept s (frameSent s) := by
  unfold frameSent
  split
  · exact (markedRestart_tableKept s _).trans (pump_tableKept _)
  · exact (pump_tableKept (freeTransmitter s)).trans (takeFrames_tableKept _ _)

/-! ### Events of the blocks -/

theorem settle_tableKept : TableKept s (settle s) := pump_tableKept (reform s)

theorem endBlanking_tracking : (endBlanking s).tracking = s.tracking := by
  by_cases h : s.sense.tuning = .settled
  · rw [endBlanking_settled h]
    rfl
  · rw [endBlanking_unsettled h]
    rfl

theorem startTail_tracking : (startTail s).tracking = s.tracking := by
  unfold startTail
  split
  · rfl
  · rfl
  · split
    · exact endBlanking_tracking s
    · rfl

theorem releaseAndSweep_tableKept : TableKept s (sweepPending (releaseHeld s)) :=
  (releaseHeld_tableKept s).trans (sweepPending_tableKept _)

theorem noticed_tableKept {f : State → Noticed} (kept : TableKept s (f s).1) : TableKept s (noticed f s) :=
  kept.trans (planChangeIf_tableKept _ _)

theorem takeCommitPoint_tracking : (takeCommitPoint s).tracking = s.tracking := by
  unfold takeCommitPoint
  split
  · exact (recheck_plannerStep _ s).tracking
  · rfl

theorem takeWindowStart_tracking : (takeWindowStart s).tracking = s.tracking := by
  unfold takeWindowStart
  split
  · exact (openEntry_plannerStep _ s).tracking
  · rfl

theorem takeWindowEnd_tracking : (takeWindowEnd s).tracking = s.tracking := by
  unfold takeWindowEnd
  split <;> rfl

theorem takeRetry_tracking : (takeRetry s).tracking = s.tracking := by
  unfold takeRetry
  split
  · exact (rebase_plannerStep _ _ s).tracking
  · rfl

end

/-! ### Every command, and the idle step -/

/-- A command taken only out of reset whose effect keeps the table sound. -/
theorem outOfReset_tableKept {f : State → State} (h : ∀ s, TableKept s (f s)) (s : State) :
    ∃ t, outOfReset f s = .next t ∧ TableKept s t := outOfReset_answers TableKept.refl h s

/-- An effect taken when it is due. -/
theorem due_tableKept {f : State → State} {due : State → Bool} (s : State) (h : due s = true → TableKept s (f s)) :
    TableKept s (whenDue due f s) := by
  unfold whenDue
  split
  · exact h ‹_›
  · exact .refl s

/-- An event after which the lines are re-formed and the transmitter is offered what waits. -/
theorem event_tableKept {f : State → State} {due : State → Bool} (h : ∀ s, due s = true → TableKept s (f s)) (s : State) :
    ∃ t, event due f s = .next t ∧ TableKept s t :=
  outOfReset_tableKept (fun s => due_tableKept s fun d => (h s d).trans (settle_tableKept _)) s

/-- Every command answers a state with a sound table where the table before was sound. -/
theorem exec_tableKept (c : Instr) (s : State) : ∃ t, exec c s = .next t ∧ TableKept s t := by
  have effect {f : State → State} {due : State → Bool} (h : ∀ s, TableKept s (f s)) :
      ∃ t, outOfReset (whenDue due f) s = .next t ∧ TableKept s t :=
    outOfReset_tableKept (fun s => due_tableKept s fun _ => h s) s
  cases hc : requestOf c with
  | some f =>
    obtain ⟨k, ticket, payload, _, arrives⟩ := requestOf_arrival hc
    rw [arrives]
    exact outOfReset_tableKept (requestArrives_tableKept · _) s
  | none =>
    cases c
    case resetNLow => exact ⟨_, rfl, fun _ => .of_cold rfl⟩
    case powerUp => exact ⟨_, rfl, fun _ => .of_cold rfl⟩
    case leaveReset rxd txon =>
      refine ⟨_, rfl, .of_eq ?_⟩
      split
      · exact (pump_tracking _).trans (leaveReset_tracking s rxd txon)
      · rfl
    case characterReceived b stopHigh => exact outOfReset_tableKept (takeCharacter_tableKept · b stopHigh) s
    case frameComplete => exact outOfReset_tableKept judgeComplete_tableKept s
    case frameTimeout => exact effect fun _ => .of_eq rfl
    case rxdLowTimeout => exact effect fun s => .of_eq (dropIfReceiving_tracking s)
    case rxdBreak => exact effect fun s => (breakRestart_tableKept s).trans (pump_tableKept _)
    case frameTransmitted => exact effect frameSent_tableKept
    case rxdReturnsHigh => exact outOfReset_tableKept (f := rxdHighAgain) (fun _ => .of_eq rfl) s
    case txonRise => exact outOfReset_tableKept (fun s => (startBlanking_tableKept s).trans (settle_tableKept _)) s
    case txonFall => exact outOfReset_tableKept (fun s => .of_eq (startTail_tracking s)) s
    case blankingEnd => exact effect fun s => .of_eq (endBlanking_tracking s)
    case settlingEnd => exact effect fun s => .of_eq (by rw [endSettling_eq]; rfl)
    case energyReading level preamble => exact event_tableKept (fun s _ => takeReading_tableKept level preamble s) s
    case longBurstCut => exact event_tableKept (fun s _ => cutLongBurst_tableKept s) s
    case gapEndRelease => exact event_tableKept (fun s _ => releaseAndSweep_tableKept s) s
    case spanLimitRelease => exact event_tableKept (fun s _ => releaseAndSweep_tableKept s) s
    case scoreDrain => exact effect fun _ => .of_eq rfl
    case dwellEnd => exact event_tableKept (fun s _ => endDwell_tableKept s) s
    case observedSinceAdvance => exact effect fun _ => .of_eq rfl
    case riseTest id => exact event_tableKept (fun s _ => noticed_tableKept s (decideRise_tableKept id s)) s
    case candidateExpiry id => exact event_tableKept (fun s _ => freeTracker_tableKept id s .age) s
    case trackerAgeLimit id => exact event_tableKept (fun s _ => noticed_tableKept s (ageTracker_tableKept id s)) s
    case dormantAgeLimit id =>
      exact event_tableKept (fun s aged => noticed_tableKept s (ageDormant_tableKept id s (of_decide_eq_true aged).1)) s
    case guardStep id => exact effect fun _ => .of_eq rfl
    case windowEdge => exact outOfReset_tableKept (f := reform) (fun _ => .of_eq rfl) s
    case templateAnchorAdvance => exact effect fun _ => .of_eq rfl
    case commitPoint => exact effect fun s => .of_eq ((pump_tracking _).trans (takeCommitPoint_tracking s))
    case windowStart => exact event_tableKept (fun s _ => .of_eq (takeWindowStart_tracking s)) s
    case windowEnd => exact event_tableKept (fun s _ => .of_eq (takeWindowEnd_tracking s)) s
    case seriesRetry => exact effect fun s => .of_eq ((pump_tracking _).trans (takeRetry_tracking s))
    case armTemplate t m => cases m <;> cases hc
    all_goals cases hc

theorem idle_tableKept (s : State) : TableKept s (idle s) := by
  unfold idle
  split
  · exact .refl s
  · split
    · exact .of_eq rfl
    · exact .of_eq rfl

end Sys2Proof.Machine

section
open Sys2Proof Sys2Proof.Machine

/-- Settles O58: by the command at the front of the queue, or the idle step. -/
theorem stepKeepsTheTrackerTableSound : Obligations.StepKeepsTheTrackerTableSound := by
  intro s t sound stepped
  unfold step at stepped
  split at stepped
  · rename_i c cs _
    obtain ⟨u, answers, kept⟩ := exec_tableKept c (s.withPending cs)
    obtain rfl : u = t := by rw [answers] at stepped; exact Host.Outcome.next.inj stepped
    exact kept sound
  · obtain rfl := Host.Outcome.next.inj stepped
    exact idle_tableKept s sound

/-- Settles O60, block by block: nothing waits, nothing is counted, and the part is in STANDBY with nothing booked. -/
theorem resetMeetsTheInvariants : Obligations.ResetMeetsTheInvariants := by
  refine ⟨?link, ?escalation, ?records, .of_cold rfl, ?bookings, ?queue, ?lines⟩
  case link => exact ⟨by decide, by decide, by decide, by decide, by decide⟩
  case escalation => exact ⟨by decide, by decide, by decide, fun _ filled => nomatch filled⟩
  case records =>
    refine ⟨rfl, fun r mem => ?_⟩
    rw [List.eq_of_mem_replicate mem]
    exact ⟨by decide, by decide, by decide⟩
  case bookings =>
    exact ⟨nofun, fun _ => ⟨rfl, nofun⟩, fun _ => rfl, nofun⟩
  case queue => exact ⟨by decide, by decide, by decide⟩
  case lines => exact ⟨fun _ => rfl, fun mode => nomatch mode⟩
end

end

section
/-! PROOFS. FORGET, READ_TRACKER and SET_TRACKING. -/

namespace Sys2Proof.Machine

/-! ### FORGET (R78) -/

section
variable {id : Byte} {s : State}

theorem requestForget_badId (h : 11 < id.toNat) : requestForget id s = refuse stBadArg s := if_pos h

theorem requestForget_free (h : id.toNat ≤ 11) (free : (s.tracker id.toNat).state = .free) :
    requestForget id s = refuse stNoSuch s := by
  rw [requestForget, if_neg (Nat.not_lt.2 h), if_pos free]

/-- An entry in use is freed, and its prediction, if it gave any, is a plan change (R78, R84). -/
theorem requestForget_used (h : id.toNat ≤ 11) (used : (s.tracker id.toNat).state ≠ .free) :
    requestForget id s =
      (reform (planChangeIf (s.tracker id.toNat).state.predicts (freeTracker id.toNat .forgotten s)), [stOk]) := by
  rw [requestForget, if_neg (Nat.not_lt.2 h), if_neg used]

/-- The states whose entries predict. -/
theorem TrackerState.predicts_iff (st : TrackerState) : st.predicts = true ↔ st = .locked ∨ st = .acquiring := by
  cases st <;> simp [TrackerState.predicts]

theorem planChangeIf_eq {b : Bool} {p : Prop} [Decidable p] (h : b = true ↔ p) (s : State) :
    planChangeIf b s = if p then planChange s else s := by
  by_cases hp : p
  · rw [planChangeIf, if_pos hp, if_pos (h.2 hp)]
  · rw [planChangeIf, if_neg hp, if_neg (mt h.1 hp)]

/-! ### READ_TRACKER (R79, Table 10-10) -/

theorem requestReadTracker_badId (h : 11 < id.toNat) : requestReadTracker id s = refuse stBadArg s := if_pos h

theorem requestReadTracker_free (h : id.toNat ≤ 11) (free : (s.tracker id.toNat).state = .free) :
    requestReadTracker id s = refuse stNoSuch s := by
  rw [requestReadTracker, if_neg (Nat.not_lt.2 h), if_pos free]

theorem requestReadTracker_used (h : id.toNat ≤ 11) (used : (s.tracker id.toNat).state ≠ .free) :
    requestReadTracker id s = (s, stOk :: (s.tracker id.toNat).fields id) := by
  rw [requestReadTracker, if_neg (Nat.not_lt.2 h), if_neg used]

end

/-- The span field has bit `i` set for channel `i + 1` (Table 10-10). -/
theorem spanField_eq (span : List Nat) :
    spanField span = BitVec.ofNat 16 (((List.range 13).map (fun i => if i + 1 ∈ span then 2 ^ i else 0)).sum) := by
  have channels : allChannels = (List.range 13).map (· + 1) := by decide
  rw [spanField, channels, List.map_map]
  simp only [Function.comp_def, List.contains_iff_mem, Nat.add_sub_cancel]

theorem TrackerKind.code_eq (k : TrackerKind) : k.code = if k = .oven then 0 else 1 := by
  cases k <;> rfl

/-! ### SET_TRACKING (R81, R82) -/

section
variable (g b : Half) (r : Byte) (c : Half) (l m : Byte) (s : State)

theorem requestSetTracking_bad (bad : g.getLsbD 15 = true ∨ b.getLsbD 15 = true ∨ c.getLsbD 15 = true) :
    requestSetTracking g b r c l m s = refuse stBadArg s := by
  have : (timeCodeBad g || timeCodeBad b || timeCodeBad c) = true := by
    rw [Bool.or_eq_true, Bool.or_eq_true, or_assoc]
    exact bad
  rw [requestSetTracking, if_pos this]

theorem requestSetTracking_good (hg : g.getLsbD 15 = false) (hb : b.getLsbD 15 = false) (hc : c.getLsbD 15 = false) :
    requestSetTracking g b r c l m s =
      (reform (applyTracking (trackSettings g b r c l m) s),
        okOrClamped (trackingClamped g b r c l m (trackSettings g b r c l m)) :: (trackSettings g b r c l m).fields) := by
  have good : (timeCodeBad g || timeCodeBad b || timeCodeBad c) = false := by
    rw [Bool.or_eq_false_iff, Bool.or_eq_false_iff]
    exact ⟨⟨hg, hb⟩, hc⟩
  rw [requestSetTracking, good]
  rfl

/-- The clamped settings, as maxima of minima; the cap is clamped against the G_base applied (R81, Table 4-4). -/
theorem trackSettings_eq :
    trackSettings g b r c l m =
      { guardBase := min 2000 (timeCodeValue g), beaconGuard := min 1000 (timeCodeValue b), wideningRate := min 100 r.toNat
        guardCap := max (min 2000 (timeCodeValue g)) (min 3000 (timeCodeValue c))
        lockRun := max 3 (min 15 l.toNat), missLimit := max 2 (min 31 m.toNat) } := by
  have base : clampNat 0 2000 (timeCodeValue g) = min 2000 (timeCodeValue g) := by
    rw [clampNat_eq _ _ _ (by decide), Nat.zero_max]
  rw [trackSettings, base, clampNat_eq _ 3000 _ (by omega), clampNat_eq 0 1000 _ (by decide),
    clampNat_eq 0 100 _ (by decide), clampNat_eq 3 15 _ (by decide), clampNat_eq 2 31 _ (by decide), Nat.zero_max,
    Nat.zero_max]

/-- The status of the reply: OK when no setting was clamped. -/
theorem okOrClamped_tracking (x : TrackSettings) :
    okOrClamped (trackingClamped g b r c l m x) =
      if x.guardBase = timeCodeValue g ∧ x.beaconGuard = timeCodeValue b ∧ x.wideningRate = r.toNat ∧
        x.guardCap = timeCodeValue c ∧ x.lockRun = l.toNat ∧ x.missLimit = m.toNat then 0x00 else 0x01 := by
  rw [← okOrClamped_not]
  congr 1
  exact decide_eq_decide.2 (by tauto)

/-- The settings in a reply, each small enough to be its own time code. -/
theorem TrackSettings.fields_eq {x : TrackSettings} (hg : x.guardBase ≤ 4095) (hb : x.beaconGuard ≤ 4095)
    (hc : x.guardCap ≤ 4095) :
    x.fields = le16 (BitVec.ofNat 16 x.guardBase) ++ le16 (BitVec.ofNat 16 x.beaconGuard) ++ [byteOf x.wideningRate] ++
      le16 (BitVec.ofNat 16 x.guardCap) ++ [byteOf x.lockRun, byteOf x.missLimit] := by
  rw [TrackSettings.fields, timeCodeField, timeCodeField, timeCodeField, timeCodeOf_small hg, timeCodeOf_small hb,
    timeCodeOf_small hc]

/-- The settings applied to a table of twelve: every LOCKED entry at the new limit sleeps, with its report, and one plan
change follows (R82, R84). -/
theorem applyTracking_eq {s : State} (size : s.tracking.entries.length = 12) (x : TrackSettings) :
    applyTracking x s = planChange { s with
      tracking :=
        { settings := x
          entries := s.tracking.entries.map (fun e =>
            if e.state = .locked ∧ x.missLimit ≤ e.misses then
              { e with state := .dormant, misses := 0, pendingRise := none }
            else e) }
      link := (List.range 12).foldl (fun l id =>
        if (s.tracker id).state = .locked ∧ x.missLimit ≤ (s.tracker id).misses then
          l.hand .tracker [byteOf id, (s.tracker id).kind.code, 3, 4, 6]
        else l) s.link } := by
  have size' : (s.withTracking { s.tracking with settings := x }).tracking.entries.length = 12 := size
  rw [applyTracking, applyMissLimit_eq size', State.changed_all size']
  simp only [decide_eq_true_eq]
  rfl

end

end Sys2Proof.Machine

section
open Sys2Proof Sys2Proof.Machine

/-- Settles O25: by whether the id is refused, names a FREE entry, or names an entry in use. -/
theorem trackerForgottenAndRead : Obligations.TrackerForgottenAndRead := by
  refine ⟨fun t id s ready => ⟨fun bad => ?_, fun low free => ?_, fun low used u hu => ?_⟩,
    fun t id e s ready he => ⟨fun bad => ?_, fun low free => ?_, fun low used => ?_⟩⟩
  · rw [forget_served ready, requestForget_badId bad]
    rfl
  · rw [forget_served ready, requestForget_free low free]
    rfl
  · obtain rfl : u = freeTracker id.toNat .forgotten s := hu
    rw [forget_served ready, requestForget_used low used, planChangeIf_eq (TrackerState.predicts_iff _)]
    rfl
  · rw [readTracker_served ready, requestReadTracker_badId bad]
    rfl
  · rw [readTracker_served ready, requestReadTracker_free low (he ▸ free)]
    rfl
  · rw [readTracker_served ready, requestReadTracker_used low (he ▸ used), ← he, Tracker.fields, spanField_eq,
      TrackerKind.code_eq]
    rfl

/-- Settles O26: by whether a time code is refused. -/
theorem setTrackingAppliesTheSettings : Obligations.SetTrackingAppliesTheSettings := by
  refine fun t g b r c l m s ready => ⟨fun bad => ?_, fun hg hb hc size x hx => ?_⟩
  · rw [setTracking_served ready, requestSetTracking_bad g b r c l m s bad]
    rfl
  · have settings : trackSettings g b r c l m = x := (trackSettings_eq g b r c l m).trans hx.symm
    have small : x.guardBase ≤ 4095 ∧ x.beaconGuard ≤ 4095 ∧ x.guardCap ≤ 4095 := by
      rw [hx]
      dsimp only
      omega
    obtain ⟨base, beacon, cap⟩ := small
    rw [setTracking_served ready, requestSetTracking_good g b r c l m s hg hb hc, settings, okOrClamped_tracking,
      TrackSettings.fields_eq base beacon cap, applyTracking_eq size]
    rfl
end

end

section
/-! PROOFS. The age limits of the tracker table. -/

namespace Sys2Proof.Machine

/-! ### The age of an entry (R70, R75, R76) -/

theorem Tracker.age_of_hit {x : Tracker} {hit : Instant} (h : x.lastHit = some hit) (now : Instant) :
    x.age now = (now - hit).toNat := by
  rw [Tracker.age, h]
  rfl

section
variable {s : State} {id : Nat} {x : Tracker} (hx : s.tracker id = x)
include hx

theorem candidateExpired_eq (st : x.state = .candidate) :
    candidateExpired s id = decide (100000 ≤ (s.airClock - x.rise).toNat) := by
  rw [candidateExpired, hx, decide_eq_true st, Bool.true_and]
  rfl

theorem trackerAged_eq {hit : Instant} (lastHit : x.lastHit = some hit) (st : x.state = .locked ∨ x.state = .acquiring)
    (kind : x.kind = .oven ∨ x.anchored = true) :
    trackerAged s id = decide (5000000 ≤ (s.airClock - hit).toNat) := by
  rw [trackerAged, hx, x.decides_iff.2 ⟨st.symm, kind⟩, Bool.true_and, Tracker.age_of_hit lastHit]

theorem dormantAged_eq {hit : Instant} (lastHit : x.lastHit = some hit) (st : x.state = .dormant) :
    dormantAged s id = decide (dormantLimit x.kind ≤ (s.airClock - hit).toNat) := by
  rw [dormantAged, hx, Tracker.age_of_hit lastHit]
  exact decide_eq_decide.2 (and_iff_right st)

/-! ### What an age limit does (R84) -/

/-- An entry freed, with the report of its kind and state. -/
theorem freeTracker_eq (cause : TrackerCause) :
    freeTracker id cause s = trackerReport id x.kind x.state .free cause (s.setTracker id Tracker.free) := by
  rw [freeTracker, hx]

theorem ageTracker_locked (st : x.state = .locked) :
    ageTracker id s = (trackerReport id x.kind .locked .dormant .age (s.setTracker id x.asDormant), true) := by
  simp only [ageTracker, hx, st]

theorem ageTracker_oven (st : x.state = .acquiring) (kind : x.kind = .oven) :
    ageTracker id s = (trackerReport id x.kind .acquiring .free .age (s.setTracker id Tracker.free), true) := by
  simp only [ageTracker, freeTracker_eq hx, hx, st, kind]

theorem ageTracker_beacon (st : x.state = .acquiring) (kind : x.kind = .beacon) :
    ageTracker id s =
      (trackerReport id x.kind .acquiring .acquiring .age (s.setTracker id x.asUnanchored), false) := by
  simp only [ageTracker, hx, st, kind]

theorem ageDormant_oven (st : x.state = .dormant) (kind : x.kind = .oven) :
    ageDormant id s = (trackerReport id x.kind .dormant .free .age (s.setTracker id Tracker.free), false) := by
  simp only [ageDormant, freeTracker_eq hx, hx, st, kind]

theorem ageDormant_beacon (kind : x.kind = .beacon) :
    ageDormant id s =
      (trackerReport id x.kind .dormant .acquiring .age (s.setTracker id x.asUnanchored), true) := by
  simp only [ageDormant, hx, kind]

end

/-! ### The events of the age limits -/

section
variable {s : State} {id : Nat}

theorem candidateExpiry_taken (run : Running s) (due : candidateExpired s id = true) :
    exec (.candidateExpiry id) s = .next (pump (reform (freeTracker id .age s))) :=
  event_taken (freeTracker id .age) run due

theorem candidateExpiry_skipped (young : candidateExpired s id = false) : exec (.candidateExpiry id) s = .next s :=
  event_skipped (freeTracker id .age) young

theorem trackerAgeLimit_taken (run : Running s) (due : trackerAged s id = true) :
    exec (.trackerAgeLimit id) s = .next (pump (reform (planChangeIf (ageTracker id s).2 (ageTracker id s).1))) :=
  event_taken (noticed (ageTracker id)) run due

theorem trackerAgeLimit_skipped (young : trackerAged s id = false) : exec (.trackerAgeLimit id) s = .next s :=
  event_skipped (noticed (ageTracker id)) young

theorem dormantAgeLimit_taken (run : Running s) (due : dormantAged s id = true) :
    exec (.dormantAgeLimit id) s = .next (pump (reform (planChangeIf (ageDormant id s).2 (ageDormant id s).1))) :=
  event_taken (noticed (ageDormant id)) run due

theorem dormantAgeLimit_skipped (young : dormantAged s id = false) : exec (.dormantAgeLimit id) s = .next s :=
  event_skipped (noticed (ageDormant id)) young

end

end Sys2Proof.Machine

section
open Sys2Proof Sys2Proof.Machine

/-- Settles O47: by the state and kind of the entry, and whether its age has reached the limit. -/
theorem ageLimitsRetireEntries : Obligations.AgeLimitsRetireEntries := by
  intro s id x run bound hx aged gone unanchored haged hgone hunanchored
  have hx : s.tracker id = x := hx.symm
  obtain rfl : gone = Tracker.free := hgone
  refine ⟨fun st => ?_, fun hit lastHit kind => ?_, fun hit lastHit st => ?_⟩
  · have due := candidateExpired_eq hx st
    refine ⟨fun old => ?_, fun young => ?_⟩
    · rw [candidateExpiry_taken run (due.trans (decide_eq_true old)), freeTracker_eq hx, st, haged]
      rfl
    · exact candidateExpiry_skipped (due.trans (decide_eq_false (Nat.not_le.2 young)))
  · refine ⟨fun st young => ?_, fun st old => ?_, fun st old => ⟨fun oven => ?_, fun beacon => ?_⟩⟩
    · exact trackerAgeLimit_skipped
        ((trackerAged_eq hx lastHit st kind).trans (decide_eq_false (Nat.not_le.2 young)))
    all_goals rw [trackerAgeLimit_taken run ((trackerAged_eq hx lastHit (by simp [st]) kind).trans (decide_eq_true old))]
    · rw [ageTracker_locked hx st, haged]
      rfl
    · rw [ageTracker_oven hx st oven, haged]
      rfl
    · rw [ageTracker_beacon hx st beacon, haged, hunanchored]
      rfl
  · have due := dormantAged_eq hx lastHit st
    refine ⟨fun oven => ⟨fun old => ?_, fun young => ?_⟩, fun beacon => ⟨fun old => ?_, fun young => ?_⟩⟩
    · rw [oven] at due
      rw [dormantAgeLimit_taken run (due.trans (decide_eq_true old)), ageDormant_oven hx st oven, haged]
      rfl
    · rw [oven] at due
      exact dormantAgeLimit_skipped (due.trans (decide_eq_false (Nat.not_le.2 young)))
    · rw [beacon] at due
      rw [dormantAgeLimit_taken run (due.trans (decide_eq_true old)), ageDormant_beacon hx beacon, haged, hunanchored]
      rfl
    · rw [beacon] at due
      exact dormantAgeLimit_skipped (due.trans (decide_eq_false (Nat.not_le.2 young)))
end

end

section
/-! PROOFS. Places in the tracker table: the lowest FREE entry, evictions, and choices from the table. -/

namespace Sys2Proof.Machine

/-! ### The id of smallest distance (R61, R67) -/

/-- Of the ids in order that pass a test, the one of smallest distance, the lower id on a tie: the choice that association
and the candidate test share. -/
def nearest (test : Nat → Bool) (distance : Nat → Nat) : List Nat → Option Nat
  | [] => none
  | id :: ids =>
    if test id then
      match nearest test distance ids with
      | none => some id
      | some j => if distance j < distance id then some j else some id
    else nearest test distance ids

theorem bestMatch_eq_nearest (s : State) (r : BurstRecord) (ids : List Nat) :
    bestMatch s r ids =
      nearest (fun id => (s.tracker id).isMatch r) (fun id => ((s.tracker id).residual r.start).natAbs) ids := by
  induction ids with
  | nil => rfl
  | cons id ids ih => cases best : bestMatch s r ids <;> simp only [bestMatch, nearest, ← ih, best]

theorem bestCandidate_eq_nearest (s : State) (r : BurstRecord) (ids : List Nat) :
    bestCandidate s r ids =
      nearest (fun id => (s.tracker id).qualifies r s.airClock)
        (fun id => Instant.elapsed (s.tracker id).rise r.start) ids := by
  induction ids with
  | nil => rfl
  | cons id ids ih => cases best : bestCandidate s r ids <;> simp only [bestCandidate, nearest, ← ih, best]

/-- The smallest distance is the greatest age, the age being what a distance lacks of a bound of all of them. -/
theorem nearest_eq_oldest {test : Nat → Bool} {distance : Nat → Nat} {ids : List Nat} (rising : ids.Pairwise (· < ·))
    {bound : Nat} (h : ∀ id ∈ ids, distance id ≤ bound) :
    nearest test distance ids = oldest test (fun id => bound - distance id) ids := by
  induction ids with
  | nil => rfl
  | cons id ids ih =>
    obtain ⟨own, others⟩ := List.forall_mem_cons.1 h
    have rest := (List.pairwise_cons.1 rising).2
    rw [nearest, oldest, ih rest others]
    split
    · cases best : oldest test (fun id => bound - distance id) ids with
      | none => rfl
      | some j =>
        have near := others j ((oldest_eq_some rest).1 best).1
        have order : distance j < distance id ↔ bound - distance id < bound - distance j := by omega
        simp only [order]
    · rfl

theorem nearest_eq_none {test : Nat → Bool} {distance : Nat → Nat} {ids : List Nat} (rising : ids.Pairwise (· < ·)) :
    nearest test distance ids = none ↔ ∀ j ∈ ids, test j = false := by
  rw [nearest_eq_oldest rising (fun _ mem => List.single_le_sum (fun _ _ => Nat.zero_le _) _ (List.mem_map_of_mem mem)),
    oldest_eq_none]

/-- The id of smallest distance among those of a rising list that pass the test, the lower id on a tie. -/
theorem nearest_eq_some {test : Nat → Bool} {distance : Nat → Nat} {ids : List Nat} (rising : ids.Pairwise (· < ·))
    {id : Nat} :
    nearest test distance ids = some id ↔ id ∈ ids ∧ test id = true ∧ ∀ j ∈ ids, test j = true →
      distance id < distance j ∨ (distance id = distance j ∧ id ≤ j) := by
  have bound (j : Nat) (mem : j ∈ ids) : distance j ≤ (ids.map distance).sum :=
    List.single_le_sum (fun _ _ => Nat.zero_le _) _ (List.mem_map_of_mem mem)
  rw [nearest_eq_oldest rising bound, oldest_eq_some rising]
  refine and_congr_right fun mem => and_congr_right fun _ => forall₃_congr fun j listed _ => ?_
  have := bound id mem
  have := bound j listed
  omega

/-! ### The ids of the table -/

theorem trackerIds_rising : trackerIds.Pairwise (· < ·) := by decide

theorem mem_trackerIds {id : Nat} : id ∈ trackerIds ↔ id < 12 := by rw [trackerIds_eq, List.mem_range]

/-! ### Places for a new entry (R71) -/

section
variable {s : State} {id : Nat}

/-- The lowest FREE entry is taken. -/
theorem allocate_free (bound : id < 12) (free : (s.tracker id).state = .free)
    (lowest : ∀ j < id, (s.tracker j).state ≠ .free) : allocate s = some (s, id) := by
  have first : trackerIds.find? (fun id => decide ((s.tracker id).state = .free)) = some id := by
    rw [trackerIds_eq, List.find?_range_eq_some]
    exact ⟨decide_eq_true free, List.mem_range.2 bound, fun j below => by simp [lowest j below]⟩
  rw [allocate, first]

/-- With no CANDIDATE, what may be evicted is a DORMANT OVEN entry. -/
theorem evictable_dormant (settled : ∀ j < 12, (s.tracker j).state ≠ .candidate) : evictable s =
    oldest (fun id => decide ((s.tracker id).state = .dormant ∧ (s.tracker id).kind = .oven))
      (fun id => (s.tracker id).age s.airClock) trackerIds := by
  have none_candidate := (oldest_eq_none (test := fun id => decide ((s.tracker id).state = .candidate))
    (age := fun id => Instant.elapsed (s.tracker id).rise s.airClock) (ids := trackerIds)).2
    fun j mem => decide_eq_false (settled j (mem_trackerIds.1 mem))
  rw [evictable, none_candidate]

variable (full : ∀ j < 12, (s.tracker j).state ≠ .free)
include full

/-- With none FREE, an entry is evicted, or allocation fails. -/
theorem allocate_full : allocate s = (evictable s).map (fun id => (freeTracker id .evicted s, id)) := by
  have none_free : trackerIds.find? (fun id => decide ((s.tracker id).state = .free)) = none := by
    rw [trackerIds_eq, List.find?_range_eq_none]
    exact fun j bound => by simp [full j bound]
  rw [allocate, none_free]
  cases evictable s <;> rfl

/-- The CANDIDATE of oldest rise goes first. -/
theorem allocate_candidate (bound : id < 12) (candidate : (s.tracker id).state = .candidate)
    (first : ∀ j < 12, (s.tracker j).state = .candidate →
      Instant.elapsed (s.tracker j).rise s.airClock < Instant.elapsed (s.tracker id).rise s.airClock ∨
        (Instant.elapsed (s.tracker j).rise s.airClock = Instant.elapsed (s.tracker id).rise s.airClock ∧ id ≤ j)) :
    allocate s = some (freeTracker id .evicted s, id) := by
  have best := (oldest_eq_some (test := fun id => decide ((s.tracker id).state = .candidate))
    (age := fun id => Instant.elapsed (s.tracker id).rise s.airClock) trackerIds_rising).2
    ⟨mem_trackerIds.2 bound, decide_eq_true candidate, fun j mem is =>
      first j (mem_trackerIds.1 mem) (of_decide_eq_true is)⟩
  rw [allocate_full full, evictable, best]
  rfl

variable (settled : ∀ j < 12, (s.tracker j).state ≠ .candidate)
include settled

/-- The DORMANT OVEN entry of oldest last hit goes next. -/
theorem allocate_dormant (bound : id < 12) (dormant : (s.tracker id).state = .dormant)
    (oven : (s.tracker id).kind = .oven)
    (first : ∀ j < 12, (s.tracker j).state = .dormant → (s.tracker j).kind = .oven →
      (s.tracker j).age s.airClock < (s.tracker id).age s.airClock ∨
        ((s.tracker j).age s.airClock = (s.tracker id).age s.airClock ∧ id ≤ j)) :
    allocate s = some (freeTracker id .evicted s, id) := by
  have best := (oldest_eq_some (test := fun id => decide ((s.tracker id).state = .dormant ∧ (s.tracker id).kind = .oven))
    (age := fun id => (s.tracker id).age s.airClock) trackerIds_rising).2
    ⟨mem_trackerIds.2 bound, decide_eq_true ⟨dormant, oven⟩, fun j mem is =>
      have is := of_decide_eq_true is
      first j (mem_trackerIds.1 mem) is.1 is.2⟩
  rw [allocate_full full, evictable_dormant settled, best]
  rfl

/-- Without such an entry allocation fails. -/
theorem allocate_none (kept : ∀ j < 12, (s.tracker j).state = .dormant → (s.tracker j).kind = .beacon) :
    allocate s = none := by
  have none_dormant := (oldest_eq_none
    (test := fun id => decide ((s.tracker id).state = .dormant ∧ (s.tracker id).kind = .oven))
    (age := fun id => (s.tracker id).age s.airClock) (ids := trackerIds)).2 fun j mem => decide_eq_false (by
      rintro ⟨dormant, oven⟩
      cases oven.symm.trans (kept j (mem_trackerIds.1 mem) dormant))
  rw [allocate_full full, evictable_dormant settled, none_dormant]
  rfl

end

/-! ### A place as the writer of a new entry sees it -/

/-- Allocation answers an id, and an entry written there leaves the table with that entry, and a link controller that has
been handed what the eviction reports. -/
structure PlaceFor (s : State) (id : Nat) (l : Link) (t : State) : Prop where
  allocated : allocate s = some (t, id)
  written : ∀ y, t.setTracker id y = (s.setTracker id y).withLink l

theorem PlaceFor.free {s : State} {id : Nat} (h : allocate s = some (s, id)) : PlaceFor s id s.link s :=
  ⟨h, fun _ => rfl⟩

theorem PlaceFor.evicted {s : State} {id : Nat} (h : allocate s = some (freeTracker id .evicted s, id)) :
    PlaceFor s id (s.link.hand .tracker [byteOf id, (s.tracker id).kind.code, (s.tracker id).state.code, 0, 10])
      (freeTracker id .evicted s) where
  allocated := h
  written y := by
    rw [← State.setTracker_setTracker s id Tracker.free y]
    rfl

end Sys2Proof.Machine
end

section
/-! PROOFS. DECLARE_BEACON and the candidate test. -/

namespace Sys2Proof.Machine

/-! ### DECLARE_BEACON (R77) -/

theorem beaconGood_iff (c : Byte) (interval airtime : Half) :
    beaconGood c interval airtime = true ↔
      interval.getLsbD 15 = false ∧ airtime.getLsbD 15 = false ∧ 1 ≤ c.toNat ∧ c.toNat ≤ 13 ∧
        20000 ≤ timeCodeValue interval ∧ timeCodeValue interval ≤ 1000000 ∧
        100 ≤ timeCodeValue airtime ∧ timeCodeValue airtime ≤ 5000 := by
  simp only [beaconGood, timeCodeBad, Bool.and_eq_true, Bool.not_eq_true', isChannel_iff, decide_eq_true_eq, and_assoc]

section
variable {c : Byte} {interval airtime : Half} {s : State}

theorem requestDeclareBeacon_bad (bad : beaconGood c interval airtime = false) :
    requestDeclareBeacon c interval airtime s = refuse stBadArg s := by
  rw [requestDeclareBeacon, bad]
  rfl

variable (good : beaconGood c interval airtime = true)
include good

theorem requestDeclareBeacon_many (many : 4 ≤ beaconCount s) :
    requestDeclareBeacon c interval airtime s = refuse stTableFull s := by
  rw [requestDeclareBeacon, good, if_pos many]
  rfl

variable (few : beaconCount s < 4)
include few

theorem requestDeclareBeacon_noPlace (place : allocate s = none) :
    requestDeclareBeacon c interval airtime s = refuse stTableFull s := by
  rw [requestDeclareBeacon, good, if_neg (Nat.not_le.2 few), place]
  rfl

theorem requestDeclareBeacon_placed {t : State} {id : Nat} (place : allocate s = some (t, id)) :
    requestDeclareBeacon c interval airtime s =
      (reform (planChange (trackerReport id .beacon .free .acquiring .declared
        (t.setTracker id (declaredBeacon c.toNat (timeCodeValue interval) (timeCodeValue airtime))))),
        [stOk, byteOf id]) := by
  rw [requestDeclareBeacon, good, if_neg (Nat.not_le.2 few), place]
  rfl

end

/-! ### The candidate test (R67 to R70) -/

theorem testsCandidates_iff (r : BurstRecord) :
    testsCandidates r = true ↔ r.structured = false ∧ 3000 ≤ r.duration ∧ r.duration ≤ 13000 ∧ r.cutAtStart = false := by
  simp only [testsCandidates, Bool.and_eq_true, Bool.not_eq_true', decide_eq_true_eq, and_assoc]

/-- A CANDIDATE entry below its age limit that covers the record and lies one to four mains periods before it. -/
theorem Tracker.qualifies_iff (x : Tracker) (r : BurstRecord) (now : Instant) :
    x.qualifies r now = true ↔ x.state = .candidate ∧ (now - x.rise).toNat < 100000 ∧
      (∃ d ∈ x.span, d ≤ r.channel + 3 ∧ r.channel ≤ d + 3) ∧
      ∃ k, cycleCount (Instant.elapsed x.rise r.start) = some k := by
  simp only [Tracker.qualifies, Tracker.riseExpired, Bool.and_eq_true, Bool.not_eq_true', decide_eq_true_eq,
    decide_eq_false_iff_not, covers_iff, Option.isSome_iff_exists, and_assoc, Nat.not_le]
  rfl

section
variable {r : BurstRecord} {s : State}

theorem candidateTest_untested (h : testsCandidates r = false) : candidateTest r s = (s, false) := by
  rw [candidateTest, h]
  rfl

variable (tested : testsCandidates r = true)
include tested

/-- The best qualifying candidate is promoted (R68). -/
theorem candidateTest_promoted {id k : Nat} (best : bestCandidate s r trackerIds = some id)
    (count : cycleCount (Instant.elapsed (s.tracker id).rise r.start) = some k) :
    candidateTest r s = (trackerReport id .oven .candidate .acquiring .periodFound
      (s.setTracker id (promoted (s.tracker id) r k s.airClock)), true) := by
  simp only [candidateTest, tested, best, count, if_true, Option.getD_some]

variable (none_best : bestCandidate s r trackerIds = none)
include none_best

/-- With none, a new candidate takes the place that there is (R69). -/
theorem candidateTest_created {t : State} {id : Nat} (place : allocate s = some (t, id)) :
    candidateTest r s =
      (trackerReport id .oven .free .candidate .created (t.setTracker id (newCandidate r)), false) := by
  simp only [candidateTest, tested, none_best, place, if_true]

theorem candidateTest_noPlace (place : allocate s = none) : candidateTest r s = (s, false) := by
  simp only [candidateTest, tested, none_best, place, if_true]

end

/-- The first rise that a promoted candidate decides: the first from 1 on whose test instant lies after now (R68, R72). -/
theorem promoted_nextRise_le {t : Tracker} {r : BurstRecord} {k : Nat}
    (count : cycleCount (Instant.elapsed t.rise r.start) = some k) (now : Instant) (i : Nat) :
    (promoted t r k now).nextRise ≤ i ↔ 1 ≤ i ∧
      0 < Sixteenth.diff (promoted t r k now).anchor (Instant.sixteenths now) + i * (promoted t r k now).period +
        16 * 2000 := by
  have positive : 0 < (promoted t r k now).period :=
    Nat.lt_of_lt_of_le (by decide) (promotedPeriod_range count).1
  exact Tracker.firstRiseAfter_le (x := { promoted t r k now with nextRise := 0 }) positive now i

end Sys2Proof.Machine

section
open Sys2Proof Sys2Proof.Machine

/-- Settles O24: by what the request or the record asks for, and by the place that there is. -/
theorem declaredBeaconsAndCandidatesTakeTheirPlaces : Obligations.DeclaredBeaconsAndCandidatesTakeTheirPlaces := by
  intro s free age place size hfree hage hplace
  obtain rfl : free = Tracker.free := hfree
  have candidateAge {j} (is : (s.tracker j).state = .candidate) :
      age j = Instant.elapsed (s.tracker j).rise s.airClock := by
    rw [hage, if_pos is]
    rfl
  have dormantAge {j} (is : (s.tracker j).state = .dormant) : age j = (s.tracker j).age s.airClock := by
    rw [hage, if_neg (by simp [is])]
    rfl
  have placed {id l} (h : place id l) : ∃ t, PlaceFor s id l t := by
    obtain ⟨bound, ⟨is, lowest, rfl⟩ | ⟨full, rfl, ⟨is, first⟩ | ⟨settled, is, oven, first⟩⟩⟩ := (hplace id l).1 h
    · exact ⟨s, .free (allocate_free bound is lowest)⟩
    · refine ⟨_, .evicted (allocate_candidate full bound is fun j listed other => ?_)⟩
      rw [← candidateAge is, ← candidateAge other]
      exact first j listed other
    · refine ⟨_, .evicted (allocate_dormant full settled bound is oven fun j listed other kind => ?_)⟩
      rw [← dormantAge is, ← dormantAge other]
      exact first j listed other kind
  have noPlace (h : ∀ id < 12, (s.tracker id).state ≠ .free ∧ (s.tracker id).state ≠ .candidate ∧
      ((s.tracker id).state = .dormant → (s.tracker id).kind = .beacon)) : allocate s = none :=
    allocate_none (fun j listed => (h j listed).1) (fun j listed => (h j listed).2.1) (fun j listed => (h j listed).2.2)
  refine ⟨fun t c interval airtime ready => ⟨fun bad => ?_, fun hi ha low high iLow iHigh aLow aHigh => ?_⟩,
    fun r tested interval cycles htested hinterval hcycles => ?_⟩
  · have refused : beaconGood c interval airtime = false := Bool.eq_false_iff.2 fun good => by
      obtain ⟨hi, ha, _⟩ := (beaconGood_iff c interval airtime).1 good
      simp only [hi, ha, Bool.false_eq_true, false_or] at bad
      omega
    rw [declareBeacon_served ready, requestDeclareBeacon_bad refused]
    rfl
  · have good := (beaconGood_iff c interval airtime).2 ⟨hi, ha, low, high, iLow, iHigh, aLow, aHigh⟩
    rw [← beaconCount_eq, declareBeacon_served ready]
    refine ⟨fun many => ?_, fun few => ⟨fun id l h => ?_, fun h => ?_⟩⟩
    · rw [requestDeclareBeacon_many good many]
      rfl
    · obtain ⟨v, there⟩ := placed h
      rw [requestDeclareBeacon_placed good few there.allocated, there.written]
      rfl
    · rw [requestDeclareBeacon_noPlace good few (noPlace h)]
      rfl
  · obtain rfl : interval = fun id => Instant.elapsed (s.tracker id).rise r.start := funext hinterval
    have htested : tested ↔ testsCandidates r = true := htested.trans (testsCandidates_iff r).symm
    have hcycles (id k) : cycles id k ↔ id < 12 ∧ (s.tracker id).state = .candidate ∧
        (s.airClock - (s.tracker id).rise).toNat < 100000 ∧
        (∃ d ∈ (s.tracker id).span, d ≤ r.channel + 3 ∧ r.channel ≤ d + 3) ∧
        cycleCount (Instant.elapsed (s.tracker id).rise r.start) = some k := by
      rw [hcycles, cycleCount_eq_some]
    have qualifies {id} (listed : id ∈ trackerIds) :
        (s.tracker id).qualifies r s.airClock = true ↔ ∃ k, cycles id k := by
      simp only [Tracker.qualifies_iff, hcycles, mem_trackerIds.1 listed, true_and, exists_and_left]
    refine ⟨fun untested => ?_, fun is id k own first => ?_, fun is none_cycles => ⟨fun id l h => ?_, fun h => ?_⟩⟩
    · exact candidateTest_untested (Bool.eq_false_iff.2 (mt htested.2 untested))
    · obtain ⟨bound, _, _, _, count⟩ := (hcycles id k).1 own
      have best : bestCandidate s r trackerIds = some id := by
        rw [bestCandidate_eq_nearest, nearest_eq_some trackerIds_rising]
        refine ⟨mem_trackerIds.2 bound, (qualifies (mem_trackerIds.2 bound)).2 ⟨k, own⟩, fun j listed other => ?_⟩
        obtain ⟨m, other⟩ := (qualifies listed).1 other
        exact first j m other
      refine ⟨(promoted (s.tracker id) r k s.airClock).nextRise, promoted (s.tracker id) r k s.airClock, ?_,
        promoted_nextRise_le count s.airClock, ?_⟩
      · rw [promoted, clampNat_eq _ _ _ (by decide)]
        rfl
      · rw [candidateTest_promoted (htested.1 is) best count]
        rfl
    all_goals
      have none_best : bestCandidate s r trackerIds = none := by
        rw [bestCandidate_eq_nearest, nearest_eq_none trackerIds_rising]
        exact fun j listed => Bool.eq_false_iff.2 fun other =>
          let ⟨m, other⟩ := (qualifies listed).1 other
          none_cycles j m other
    · obtain ⟨v, there⟩ := placed h
      rw [candidateTest_created (htested.1 is) none_best there.allocated, there.written]
      rfl
    · exact candidateTest_noPlace (htested.1 is) none_best (noPlace h)
end

end

section
/-! PROOFS. The nearest rise, the match of a record, absorption and hits. -/

namespace Sys2Proof.Machine

/-! ### The nearest rise (R89) -/

section
variable {x : Tracker} (positive : 0 < x.period) (start : Instant)
include positive

/-- The residual lies within half a period, a half itself being taken above the rise. -/
theorem Tracker.residual_range : -(x.period : Int) < 2 * x.residual start ∧ 2 * x.residual start ≤ x.period := by
  have period : (0 : Int) < 2 * x.period := by omega
  have below := Int.mul_ediv_self_le (x := (x.period : Int) - 2 * x.offsetOf start) (k := 2 * x.period) (by omega)
  have above := Int.lt_mul_ediv_self_add (x := (x.period : Int) - 2 * x.offsetOf start) (k := 2 * x.period) period
  rw [Tracker.residual, Tracker.cycles, roundDown]
  generalize ((x.period : Int) - 2 * x.offsetOf start) / (2 * x.period) = q at below above ⊢
  constructor <;> nlinarith

/-- No other rise is nearer, and none before it as near. -/
theorem Tracker.residual_least (n : Int) :
    (x.residual start).natAbs < (x.offsetOf start - n * x.period).natAbs ∨
      ((x.residual start).natAbs = (x.offsetOf start - n * x.period).natAbs ∧ x.cycles start ≤ n) := by
  obtain ⟨low, high⟩ := x.residual_range positive start
  have other : x.offsetOf start - n * x.period = x.residual start + (x.cycles start - n) * x.period := by
    rw [Tracker.residual]
    ring
  rw [other]
  have period : (0 : Int) < x.period := by exact_mod_cast positive
  rcases lt_trichotomy (x.cycles start) n with before | rfl | after
  · have : (x.cycles start - n) * x.period ≤ -1 * x.period := Int.mul_le_mul_of_nonneg_right (by omega) period.le
    omega
  · exact .inr ⟨by simp, le_rfl⟩
  · have : 1 * (x.period : Int) ≤ (x.cycles start - n) * x.period := Int.mul_le_mul_of_nonneg_right (by omega) period.le
    omega

end

/-! ### The match (R60, R61) -/

theorem bestMatch_eq_some {s : State} {r : BurstRecord} {id : Nat} :
    bestMatch s r trackerIds = some id ↔
      id < 12 ∧ (s.tracker id).isMatch r = true ∧ ∀ j < 12, (s.tracker j).isMatch r = true →
        ((s.tracker id).residual r.start).natAbs < ((s.tracker j).residual r.start).natAbs ∨
          (((s.tracker id).residual r.start).natAbs = ((s.tracker j).residual r.start).natAbs ∧ id ≤ j) := by
  rw [bestMatch_eq_nearest, nearest_eq_some trackerIds_rising]
  simp only [mem_trackerIds]

theorem Tracker.isMatch_iff (x : Tracker) (r : BurstRecord) :
    x.isMatch r = true ↔
      (x.state = .acquiring ∨ x.state = .locked ∨ x.state = .dormant) ∧
      (x.kind = .oven → r.structured = false ∧ 200 ≤ r.duration ∧
        ∃ d ∈ x.span, d ≤ r.channel + 3 ∧ r.channel ≤ d + 3) ∧
      (x.kind = .beacon → r.structured = true ∧ x.anchored = true ∧ x.channel = r.channel) ∧
      (x.residual r.start).natAbs ≤ 16 * Machine.halfWidth x.kind x.state := by
  rw [Tracker.isMatch, Tracker.eligible, ← TrackerState.associates_iff]
  cases kind : x.kind <;>
    simp [kind, Tracker.halfWidth, covers_iff, and_assoc]

/-! ### The next rise to decide (R72) -/

/-- The first rise after now is one of those from 1 on. -/
theorem Tracker.one_le_firstRiseAfter (x : Tracker) (now : Instant) : 1 ≤ x.firstRiseAfter now := Nat.le_max_left _ _

/-! ### Absorption (R62, R90, R91) -/

section
variable {x : Tracker} {r : BurstRecord}

/-- The conditions on which an absorbed record extends the on-duration (R91). -/
def Tracker.Extends (x : Tracker) (r : BurstRecord) : Prop :=
  x.kind = .oven ∧ x.cycles r.start = 0 ∧ r.truncated = false ∧ r.long = false ∧
    ∃ hit, x.lastHit = some hit ∧ Instant.before (hit + BitVec.ofNat 32 x.onDuration) r.finish = true

theorem smoothDuration_eq (d u : Nat) :
    smoothDuration d u = (max 2000 (min 14000 ((d : Int) + roundAway ((u : Int) - d) 8))).toNat := by
  rw [smoothDuration, clamp_eq _ _ _ (by decide)]

/-- A record that shows a longer burst. -/
theorem absorb_extended (h : x.Extends r) {hit : Instant} (lastHit : x.lastHit = some hit) :
    absorb x r = { x.withChannel r.channel with
      onDuration := smoothDuration x.onDuration (r.finish - hit).toNat } := by
  obtain ⟨oven, zero, whole, short, hit', lastHit', later⟩ := h
  obtain rfl : hit' = hit := Option.some.inj (lastHit'.symm.trans lastHit)
  have later : Instant.before (Instant.plus hit' x.onDuration) r.finish = true := later
  simp only [absorb, Tracker.withChannel, extendDuration, oven, zero, lastHit, whole, short, later, if_true,
    Bool.not_false, Bool.and_self, Instant.elapsed]

/-- Any other only joins the span. -/
theorem absorb_grown (h : ¬ x.Extends r) : absorb x r = x.withChannel r.channel := by
  unfold absorb
  dsimp only
  split
  case h_2 => rfl
  case h_1 oven =>
    split
    case isFalse => rfl
    case isTrue zero =>
      rw [Tracker.withChannel_eq]
      unfold extendDuration
      split
      case h_2 => rfl
      case h_1 hit lastHit =>
        refine if_neg fun longer => h ?_
        simp only [Bool.and_eq_true, Bool.not_eq_true'] at longer
        exact ⟨oven, zero, longer.1.1, longer.1.2, hit, lastHit, longer.2⟩

end

/-! ### The hit update (R92 to R95) -/

/-- The values that every hit with a count of `n` sets: the anchor moved by the residual over `a`, the period by the
residual over `p * n`, and the on-duration by an eighth, an OVEN entry's within their ranges; the span; misses 0, one more
hit, the last hit, and no rise pending. -/
def Tracker.struck (x : Tracker) (r : BurstRecord) (n a p : Nat) : Tracker :=
  { x with
    anchor := x.nearestRise r.start + BitVec.ofInt 36 (roundAway (x.residual r.start) a)
    period := if x.kind = .beacon then x.period
      else (max 240000 (min 336000 ((x.period : Int) + roundAway (x.residual r.start) (p * n)))).toNat
    onDuration := if x.kind = .beacon ∨ r.truncated = true ∨ r.long = true then x.onDuration
      else (max 2000 (min 14000 ((x.onDuration : Int) + roundAway ((r.duration : Int) - x.onDuration) 8))).toNat
    span := if x.kind = .beacon then x.span else spanInsert r.channel x.span
    misses := 0, hits := min 65535 (x.hits + 1), lastHit := some r.start, pendingRise := none }

section
variable {x : Tracker} {r : BurstRecord} {n : Nat}

theorem hitPeriod_eq (count : x.cycles r.start = n) (locked : Bool) :
    hitPeriod x r locked = if x.kind = .beacon then x.period
      else (max 240000 (min 336000
        ((x.period : Int) + roundAway (x.residual r.start) ((if locked then 8 else 4) * n)))).toNat := by
  cases kind : x.kind with
  | beacon => simp only [hitPeriod, kind, if_true]
  | oven =>
    simp only [hitPeriod, kind, periodDivisor, count, Int.toNat_natCast, reduceCtorEq, if_false]
    rw [clamp_eq _ _ _ (by decide)]

theorem hitDuration_eq (x : Tracker) (r : BurstRecord) :
    hitDuration x r = if x.kind = .beacon ∨ r.truncated = true ∨ r.long = true then x.onDuration
      else (max 2000 (min 14000 ((x.onDuration : Int) + roundAway ((r.duration : Int) - x.onDuration) 8))).toNat := by
  cases kind : x.kind with
  | beacon => simp only [hitDuration, kind, true_or, if_true]
  | oven => simp only [hitDuration, kind, smoothDuration_eq, Bool.or_eq_true, reduceCtorEq, false_or]

/-- An entry after the hit update, its span, and what every hit sets. -/
theorem hitUpdate_struck (count : x.cycles r.start = n) (locked : Bool) :
    (hitUpdate x r locked).withChannel r.channel =
      { x with
        anchor := (x.struck r n (anchorDivisor locked) (if locked then 8 else 4)).anchor
        period := (x.struck r n (anchorDivisor locked) (if locked then 8 else 4)).period
        onDuration := (x.struck r n (anchorDivisor locked) (if locked then 8 else 4)).onDuration
        span := (x.struck r n (anchorDivisor locked) (if locked then 8 else 4)).span } := by
  rw [Tracker.withChannel_eq, hitUpdate, hitPeriod_eq count, hitDuration_eq]
  rfl

end

end Sys2Proof.Machine
end

section
/-! PROOFS. What association and anchoring do to an entry, and statement O48. -/

namespace Sys2Proof.Machine

/-! ### The entry after a hit, timed again (R64, R72) -/

/-- An entry whose next rise to decide is the first after now. -/
def Tracker.timed (x : Tracker) (now : Instant) : Tracker := { x with nextRise := x.firstRiseAfter now }

/-- The next rise to decide is the first from 1 on whose test instant lies after now. -/
theorem Tracker.firstRiseAfter_first (x : Tracker) (now : Instant) :
    1 ≤ x.firstRiseAfter now ∧ (0 < x.period → ∀ i : Nat, x.firstRiseAfter now ≤ i ↔ 1 ≤ i ∧
      0 < (x.anchor - BitVec.ofNat 36 (16 * now.toNat)).toInt + i * x.period +
        16 * Machine.halfWidth x.kind x.state) :=
  ⟨x.one_le_firstRiseAfter now, fun positive => x.firstRiseAfter_le positive now⟩

theorem hitRun_eq (x : Tracker) (r : BurstRecord) :
    hitRun x r =
      if (x.residual r.start).natAbs ≤ (if x.kind = .beacon then 3200 else 6400) then min 15 (x.run + 1) else 0 := by
  cases kind : x.kind <;> simp [hitRun, kind, runLimit, saturate]

/-! ### A hit on a LOCKED entry (R65, R92 to R97) -/

section
variable {s : State} {id : Nat} {x : Tracker} {r : BurstRecord} {n : Nat} (count : x.cycles r.start = n)
include count

theorem lockedHit_steady (small : (x.residual r.start).natAbs ≤ 64) :
    lockedHit id x r s = (s.setTracker id ((x.struck r n 4 8).timed s.airClock), false) := by
  have slip : slipOverflows x r = false := decide_eq_false fun overflow => by omega
  simp only [lockedHit, slip, hitUpdate_struck count, if_neg (Nat.not_lt.2 small)]
  rfl

theorem lockedHit_slipped (large : 64 < (x.residual r.start).natAbs) (few : x.slips < 15) :
    lockedHit id x r s =
      (s.setTracker id ({ x.struck r n 4 8 with slips := x.slips + 1 }.timed s.airClock), false) := by
  have slip : slipOverflows x r = false := decide_eq_false fun overflow => by omega
  simp only [lockedHit, slip, hitUpdate_struck count, if_pos large]
  rfl

theorem lockedHit_overflowed (large : 64 < (x.residual r.start).natAbs) (many : 15 ≤ x.slips) :
    lockedHit id x r s =
      ((s.setTracker id ({ x.struck r n 4 8 with
          state := .acquiring, run := 0, slips := 0, slipOverflow := true }.timed s.airClock)).withLink
        (s.link.hand .tracker [byteOf id, x.kind.code, 3, 2, 8]).setSlipOvf, true) := by
  have slip : slipOverflows x r = true := decide_eq_true ⟨large, many⟩
  simp only [lockedHit, slip, hitUpdate_struck count, if_true]
  rfl

/-! ### A hit on an ACQUIRING entry (R64) -/

theorem acquiringHit_short (short : hitRun x r < s.tracking.settings.lockRun) :
    acquiringHit id x r s =
      (s.setTracker id ({ x.struck r n 2 4 with run := hitRun x r }.timed s.airClock), false) := by
  simp only [acquiringHit, hitUpdate_struck count, if_neg (Nat.not_le.2 short)]
  rfl

theorem acquiringHit_complete (complete : s.tracking.settings.lockRun ≤ hitRun x r) :
    acquiringHit id x r s =
      (trackerReport id x.kind .acquiring .locked .runComplete
        (s.setTracker id ({ x.struck r n 2 4 with state := .locked, run := hitRun x r }.timed s.airClock)), true) := by
  simp only [acquiringHit, hitUpdate_struck count, if_pos complete]
  rfl

end

/-! ### The record associated with an entry (R62, R66) -/

theorem State.setTracker_withLink_setTracker (s : State) (id : Nat) (x y : Tracker) (l : Link) :
    ((s.setTracker id x).withLink l).setTracker id y = (s.setTracker id y).withLink l :=
  congrArg (·.withLink l) (s.setTracker_setTracker id x y)

section
variable {s : State} {id : Nat} {x : Tracker} (hx : s.tracker id = x) {r : BurstRecord}
include hx

theorem associate_absorbed (early : x.cycles r.start ≤ 0) : associate id r s = (s.setTracker id (absorb x r), false) := by
  simp only [associate, hx, if_pos early]

theorem State.setTracker_same (bound : id < s.tracking.entries.length) : s.setTracker id x = s := by
  rw [← hx, State.tracker_eq bound, State.setTracker, List.set_getElem_self]
  rfl

variable (later : 1 ≤ x.cycles r.start)
include later

theorem associate_locked (st : x.state = .locked) : associate id r s = lockedHit id x r s := by
  simp only [associate, hx, if_neg (by omega : ¬ x.cycles r.start ≤ 0), st]

/-- An ACQUIRING entry takes the hit as it is; a DORMANT one is first written back as ACQUIRING with its run preset, and
reported. -/
theorem associate_acquiring (bound : id < s.tracking.entries.length) {l : Link} {revived : Bool} {old : Nat}
    (taken : (x.state = .acquiring ∧ l = s.link ∧ revived = false ∧ old = x.run) ∨
      (x.state = .dormant ∧ l = s.link.hand .tracker [byteOf id, x.kind.code, 4, 2, 5] ∧ revived = true ∧
        old = s.tracking.settings.lockRun - 3)) :
    associate id r s =
      ((acquiringHit id { x with state := .acquiring, run := old } r
          ((s.setTracker id { x with state := .acquiring, run := old }).withLink l)).1,
        revived || (acquiringHit id { x with state := .acquiring, run := old } r
          ((s.setTracker id { x with state := .acquiring, run := old }).withLink l)).2) := by
  have positive : ¬ x.cycles r.start ≤ 0 := by omega
  rcases taken with ⟨st, rfl, rfl, rfl⟩ | ⟨st, rfl, rfl, rfl⟩
  · have same : { x with state := .acquiring, run := x.run } = x := by rw [← st]
    have unchanged : (s.setTracker id x).withLink s.link = s := by
      rw [State.setTracker_same hx bound]
      rfl
    rw [same, unchanged]
    simp only [associate, hx, if_neg positive, st, Bool.false_or]
  · simp only [associate, hx, if_neg positive, st, Bool.true_or]
    rfl

end

/-! ### Anchoring a declared beacon (R63) -/

section
variable {s : State} {r : BurstRecord}

theorem tryAnchor_none (nobody : ∀ j < 12, (s.tracker j).anchorable r = false) : tryAnchor r s = (s, none) := by
  have search : trackerIds.find? (fun id => (s.tracker id).anchorable r) = none := by
    rw [List.find?_eq_none]
    intro j member
    rw [nobody j (mem_trackerIds.1 member)]
    exact Bool.false_ne_true
  simp only [tryAnchor, search]

theorem tryAnchor_lowest {id : Nat} (bound : id < 12) (admits : (s.tracker id).anchorable r = true)
    (lowest : ∀ j < id, (s.tracker j).anchorable r = false) :
    tryAnchor r s =
      (trackerReport id .beacon .acquiring .acquiring .anchored
        (s.setTracker id (anchorBeacon (s.tracker id) r s.airClock)), some id) := by
  have search : trackerIds.find? (fun id => (s.tracker id).anchorable r) = some id := by
    rw [trackerIds_eq, List.find?_range_eq_some]
    exact ⟨admits, List.mem_range.2 bound, fun j below => by rw [lowest j below, Bool.not_false]⟩
  simp only [tryAnchor, search]

theorem Tracker.anchorable_iff (x : Tracker) (r : BurstRecord) :
    x.anchorable r = true ↔ x.kind = .beacon ∧ x.state = .acquiring ∧ x.anchored = false ∧ x.channel = r.channel ∧
      r.duration ≤ x.onDuration + 200 := decide_eq_true_iff

end

end Sys2Proof.Machine
end

section
open Sys2Proof Sys2Proof.Machine

/-- Settles O48: the nearest rise is the rounding of R89, the match is a search for the nearest, and association is split
by the count of the record and the state of the entry, each hit being `Tracker.struck` with the divisors of its state. -/
theorem nearestRiseAndLockedHit : Obligations.NearestRiseAndLockedHit := by
  refine ⟨fun x start positive => ⟨rfl, rfl, x.residual_least positive start⟩, fun s r id => bestMatch_eq_some, ?_⟩
  intro width oven beacon
  obtain rfl : width = Machine.halfWidth := by
    funext kind state
    cases kind with
    | oven => rw [oven]; cases state <;> rfl
    | beacon => rw [beacon]; cases state <;> rfl
  refine ⟨Tracker.isMatch_iff, ?_⟩
  intro s r id n x e first bound hx he hfirst
  have next (y : Tracker) : first y (y.firstRiseAfter s.airClock) := (hfirst _ _).2 (y.firstRiseAfter_first s.airClock)
  refine ⟨?absorption, ?hits, ?anchoring⟩
  case absorption =>
    intro early grown hgrown extended hextended
    have growth : x.withChannel r.channel = grown := (x.withChannel_eq r.channel).trans hgrown.symm
    rw [associate_absorbed hx.symm early]
    constructor
    · intro longer hit lastHit
      rw [absorb_extended (hextended.1 longer) lastHit, growth, smoothDuration_eq]
      rfl
    · intro shorter
      rw [absorb_grown (fun h => shorter (hextended.2 h)), growth]
      rfl
  case hits =>
    intro count positive hit hhit
    have later : 1 ≤ x.cycles r.start := by omega
    have struck (a p : Nat) : hit a p = x.struck r n a p := by rw [hhit, he]; rfl
    simp only [struck, he]
    constructor
    · intro st
      rw [associate_locked hx.symm later st]
      refine ⟨fun small => ?_, fun large few => ?_, fun large many => ?_⟩
      · exact ⟨_, next _, lockedHit_steady count small⟩
      · exact ⟨_, next _, lockedHit_slipped count large few⟩
      · exact ⟨_, next _, lockedHit_overflowed count large many⟩
    · intro run l revived hrun old taken
      have ran : hitRun { x with state := .acquiring, run := old } r = run old := (hitRun_eq _ r).trans (hrun old).symm
      rw [associate_acquiring hx.symm later bound taken]
      refine ⟨fun short => ⟨_, next _, ?_⟩, fun complete => ⟨_, next _, ?_⟩⟩
      · rw [acquiringHit_short (x := { x with state := .acquiring, run := old }) count (ran ▸ short), ran,
          State.setTracker_withLink_setTracker, Bool.or_false]
        rfl
      · rw [acquiringHit_complete (x := { x with state := .acquiring, run := old }) count (ran ▸ complete), ran,
          State.setTracker_withLink_setTracker, Bool.or_true]
        rfl
  case anchoring =>
    intro anchorable hanchorable
    have admits (j : Nat) : anchorable j ↔ j < 12 ∧ (s.tracker j).anchorable r = true := by
      rw [hanchorable, Tracker.anchorable_iff]
    refine ⟨fun nobody => ?_, fun mine lowest y hy => ⟨_, next y, ?_⟩⟩
    · exact tryAnchor_none fun j below => Bool.eq_false_iff.2 fun h => nobody j ((admits j).2 ⟨below, h⟩)
    · obtain ⟨below, h⟩ := (admits id).1 mine
      rw [tryAnchor_lowest below h fun j lower => Bool.eq_false_iff.2 fun other =>
        Nat.not_lt.2 (lowest j ((admits j).2 ⟨by omega, other⟩)) lower, hy, hx]
      rfl

end

section
/-! PROOFS. The windows of a train, and the predicates of the rule list. -/

namespace Sys2Proof.Machine

/-! ### The windows of a train (R99, R104) -/

namespace Train
section
variable {w : Train} (now : Instant) (k : Nat) (lo hi : Int)

theorem riseAt_eq : w.riseAt now k = w.riseAt now 0 + k * w.period := by simp [riseAt]

theorem mem_indices : k ∈ w.indices now lo hi ↔ w.firstIndex now lo ≤ k ∧ k < w.indexLimit now hi := by
  simp only [indices, List.mem_map, List.mem_range]
  constructor
  · rintro ⟨i, below, rfl⟩
    omega
  · rintro ⟨first, limit⟩
    exact ⟨k - w.firstIndex now lo, by omega, by omega⟩

/-- The start edge, with the quotient of R99 written out. -/
theorem startEdge_eq : w.startEdge now k = w.riseAt now k / 16 - w.ovenGuard := rfl

/-- The end edge, its quotient rounded up by the 15 sixteenths that R99's ceiling stands for. -/
theorem endEdge_eq : w.endEdge now k = (w.riseAt now k + 15) / 16 + w.onTime + w.ovenGuard := by
  rw [endEdge, ceilDiv]
  omega

variable (positive : 0 < w.period)
include positive

theorem firstIndex_le_iff : w.firstIndex now lo ≤ k ↔ lo < w.endEdge now k := by
  have period : (0 : Int) < w.period := Int.natCast_pos.2 positive
  rw [firstIndex, floorDiv, Int.toNat_le, Int.add_one_le_iff, Int.ediv_lt_iff_lt_mul period, endEdge_eq, riseAt_eq now k]
  omega

theorem lt_indexLimit_iff : k < w.indexLimit now hi ↔ w.startEdge now k ≤ hi := by
  have period : (0 : Int) < w.period := Int.natCast_pos.2 positive
  rw [indexLimit, floorDiv, Int.lt_toNat, Int.lt_add_one_iff, Int.le_ediv_iff_mul_le period, startEdge_eq, riseAt_eq now k]
  omega

/-- The listed windows are exactly those that meet the interval. -/
theorem mem_indices_iff : k ∈ w.indices now lo hi ↔ w.startEdge now k ≤ hi ∧ lo < w.endEdge now k := by
  rw [mem_indices, firstIndex_le_iff now k lo positive, lt_indexLimit_iff now k hi positive, and_comm]

/-- A train holds at the instants of its windows, start edge included and end edge not (R99). -/
theorem holds_iff (x : Int) :
    w.holds now x = true ↔ ∃ k, w.startEdge now k ≤ x ∧ x < w.endEdge now k := by
  simp only [holds, List.any_eq_true, decide_eq_true_eq, mem_indices_iff now _ x x positive, and_self]

end
end Train

/-! ### The entries whose windows a predicate reads (R100, R108) -/

theorem Tracker.coversO_iff (t : Tracker) (o : Option Nat) :
    t.coversO o = true ↔ ∃ c, o = some c ∧ ∃ d ∈ t.span, d ≤ c + 3 ∧ c ≤ d + 3 := by
  cases o <;> simp [Tracker.coversO, covers_iff]

/-- The age widens the guard in whole steps of 100,000 µs, and not at all before a first hit (R100). -/
theorem effectiveGuard_eq (ts : TrackSettings) (now : Instant) (t : Tracker) :
    effectiveGuard ts now t = min ts.guardCap (ts.guardBase + ts.wideningRate *
      t.lastHit.elim 0 (fun hit => (now - hit).toNat / 100000)) := by
  unfold effectiveGuard
  cases t.lastHit <;> rfl

theorem any_train_holds_iff {entries : List Tracker} {read : Tracker → Bool} {guard : Tracker → Nat} {now : Instant}
    {x : Int} :
    ((entries.filter read).map (fun t => t.train (guard t))).any (fun w => w.holds now x) = true ↔
      ∃ e ∈ entries, read e = true ∧ (e.train (guard e)).holds now x = true := by
  simp only [List.any_map, List.any_filter, List.any_eq_true, Bool.and_eq_true, Function.comp_apply]

/-- Out of FALLBACK, OVEN_LOCKED reads the live LOCKED ovens (R109). -/
theorem ovenLockedTrains_live {s : State} (mode : s.control.mode ≠ .fallback) :
    ovenLockedTrains s = lockedOvenTrains s := by
  unfold ovenLockedTrains
  split
  case h_1 fallback => exact absurd fallback mode
  all_goals rfl

/-- In FALLBACK, OVEN_LOCKED reads the template alone (R104, R109). -/
theorem ovenLockedTrains_template {s : State} {t : Template} (mode : s.control.mode = .fallback)
    (present : s.planner.template = some t) : ovenLockedTrains s = [t.train] := by
  simp only [ovenLockedTrains, mode, present, Option.map_some, Option.toList_some]

/-! ### The predicates (Table 6-2) -/

section
variable {s : State} {x : Int}

theorem ovenLocked_live_iff (mode : s.control.mode ≠ .fallback) :
    Predicate.ovenLocked.holdsAt s x = true ↔ ∃ e ∈ s.tracking.entries, e.kind = .oven ∧ e.state = .locked ∧
      e.coversO s.dwells.operating = true ∧
      (e.train (effectiveGuard s.tracking.settings s.airClock e)).holds s.airClock x = true := by
  rw [Predicate.holdsAt, ovenLockedTrains_live mode, lockedOvenTrains, any_train_holds_iff]
  simp only [Bool.and_eq_true, decide_eq_true_eq, and_assoc]

theorem ovenLocked_template_iff {t : Template} (mode : s.control.mode = .fallback)
    (present : s.planner.template = some t) :
    Predicate.ovenLocked.holdsAt s x = true ↔ t.train.holds s.airClock x = true := by
  rw [Predicate.holdsAt, ovenLockedTrains_template mode present, List.any_cons, List.any_nil, Bool.or_false]

theorem ovenAcq_iff :
    Predicate.ovenAcq.holdsAt s x = true ↔ ∃ e ∈ s.tracking.entries, e.kind = .oven ∧ e.state = .acquiring ∧
      e.coversO s.dwells.operating = true ∧
      (e.train (s.tracking.settings.guardBase + 500)).holds s.airClock x = true := by
  rw [Predicate.holdsAt, acquiringOvenTrains, any_train_holds_iff]
  simp only [Bool.and_eq_true, decide_eq_true_eq, and_assoc]

theorem beacon_iff :
    Predicate.beacon.holdsAt s x = true ↔ ∃ e ∈ s.tracking.entries, e.kind = .beacon ∧ e.state = .locked ∧
      s.dwells.operating = some e.channel ∧
      (e.train s.tracking.settings.beaconGuard).holds s.airClock x = true := by
  rw [Predicate.holdsAt, lockedBeaconTrains, any_train_holds_iff]
  simp only [decide_eq_true_eq, and_assoc, eq_comm (a := some _)]

theorem anyLock_iff :
    Predicate.anyLock.holdsAt s x = true ↔ ∃ e ∈ s.tracking.entries, e.kind = .oven ∧ e.state = .locked ∧
      e.coversO s.dwells.operating = true := by
  simp only [Predicate.holdsAt, anyOvenLocked, List.any_eq_true, Bool.and_eq_true, decide_eq_true_eq, and_assoc]

theorem loadHigh_iff :
    Predicate.loadHigh.holdsAt s x = true ↔
      ∃ o, s.dwells.operating = some o ∧ s.planner.loadThreshold ≤ (s.channelRecord o).load := by
  rw [Predicate.holdsAt, loadAtThreshold]
  cases s.dwells.operating <;> simp

end

/-- An inverted rule tests the opposite of its predicate (R111). -/
theorem Rule.test_eq (r : Rule) (s : State) (x : Int) :
    r.test s x = if r.invert then !r.predicate.holdsAt s x else r.predicate.holdsAt s x := by
  rw [Rule.test]
  cases r.invert
  · exact Bool.xor_false _
  · exact Bool.xor_true _

end Sys2Proof.Machine

section
open Sys2Proof Sys2Proof.Machine

/-- Settles O50: each predicate is a search of the entries that it reads for a train that holds, and a train holds just
inside its windows. -/
theorem predicatesReadTheWindows : Obligations.PredicatesReadTheWindows := by
  intro s x inWindow hwindow covers hcovers
  have covered (e : Tracker) : e.coversO s.dwells.operating = true ↔ covers e :=
    (e.coversO_iff _).trans (hcovers e).symm
  have window {w : Train} (positive : 0 < w.period) :
      w.holds s.airClock x = true ↔ inWindow w.anchor w.period w.onTime w.ovenGuard := by
    rw [Train.holds_iff _ positive, hwindow]
    simp only [Train.startEdge_eq, Train.endEdge_eq, exists_eq_left]
    rfl
  refine ⟨fun r => r.test_eq s x, fun positive mode => ?_, fun t present positive mode => ?_,
    fun positive => ⟨?_, ?_⟩, ?_, loadHigh_iff, rfl⟩
  · rw [ovenLocked_live_iff mode]
    refine exists_congr fun e => and_congr_right fun member => and_congr_right fun _ => and_congr_right fun locked => ?_
    rw [covered, window (positive e member (.inr locked)), exists_eq_left, effectiveGuard_eq]
    cases e.lastHit <;> rfl
  · rw [ovenLocked_template_iff mode present]
    exact window positive
  · rw [ovenAcq_iff]
    refine exists_congr fun e => and_congr_right fun member => and_congr_right fun _ => and_congr_right fun acquiring => ?_
    rw [covered, window (positive e member (.inl acquiring))]
    rfl
  · rw [beacon_iff]
    refine exists_congr fun e => and_congr_right fun member => and_congr_right fun _ => and_congr_right fun locked => ?_
    rw [window (positive e member (.inr locked))]
    rfl
  · simp only [anyLock_iff, covered]
end

end

section
/-! PROOFS. What the mode allows of bookings, series, template and lines: admission, and the window planner's operations. -/

namespace Sys2Proof.Machine

/-! ### Entries of a lane counted (R125) -/

/-- The entries of a lane, as a count. -/
theorem laneCount_eq (l : Lane) (q : List Reservation) : laneCount l q = q.countP (fun e => decide (e.lane = l)) :=
  List.countP_eq_length_filter.symm

theorem insertEntry_perm (e : Reservation) (q : List Reservation) : (insertEntry e q).Perm (e :: q) := by
  induction q with
  | nil => exact .refl _
  | cons x q ih =>
    unfold insertEntry
    split
    · exact .refl _
    · exact (ih.cons x).trans (.swap e x q)

/-- An entry put into the queue is one more of its lane. -/
theorem laneCount_insertEntry (l : Lane) (e : Reservation) (q : List Reservation) :
    laneCount l (insertEntry e q) = laneCount l q + if e.lane = l then 1 else 0 := by
  rw [laneCount_eq, (insertEntry_perm e q).countP_eq, List.countP_cons, ← laneCount_eq]
  simp only [decide_eq_true_eq]

theorem laneCount_sublist (l : Lane) {p q : List Reservation} (h : p.Sublist q) : laneCount l p ≤ laneCount l q :=
  (h.filter _).length_le

/-- An entry that a filter takes out is one fewer of its lane. -/
theorem laneCount_filter_lt {e : Reservation} {q : List Reservation} {keep : Reservation → Bool} (mem : e ∈ q)
    (out : keep e = false) (l : Lane) :
    laneCount l (q.filter keep) + (if e.lane = l then 1 else 0) ≤ laneCount l q := by
  rw [laneCount_eq, laneCount_eq, List.countP_eq_countP_filter_add q _ keep]
  split
  · rename_i lane
    exact Nat.add_le_add_left (List.countP_pos_iff.2
      ⟨e, List.mem_filter.2 ⟨mem, by rw [out]; rfl⟩, decide_eq_true lane⟩) _
  · exact Nat.le_add_right _ _

/-! ### Queues within the shared capacity (R124, R125) -/

/-- No more entries of either lane than before, with the reserves as they were. -/
theorem QueueAdmitted.of_fewer {s t : State} (admitted : QueueAdmitted s)
    (reserveA : t.planner.reserveA = s.planner.reserveA) (reserveB : t.planner.reserveB = s.planner.reserveB)
    (fewer : ∀ l, laneCount l t.planner.queue ≤ laneCount l s.planner.queue) : QueueAdmitted t := by
  have a := fewer .a
  have b := fewer .b
  simp only [QueueAdmitted, Planner.beyondReserves, Planner.sharedCapacity, reserveA, reserveB] at admitted ⊢
  omega

/-- An empty queue lies within any capacity. -/
theorem QueueAdmitted.of_empty {t : State} (reserveA : t.planner.reserveA ≤ 6) (reserveB : t.planner.reserveB ≤ 6)
    (queue : t.planner.queue = []) : QueueAdmitted t := by
  refine ⟨reserveA, reserveB, ?_⟩
  simp [Planner.beyondReserves, queue, laneCount]

/-- An admitted entry finds its place within its reserve or the shared capacity. -/
theorem placeEntry_admitted {s : State} {e : Reservation} (admits : s.planner.admits e.lane = true)
    (admitted : QueueAdmitted s) : QueueAdmitted (placeEntry e s) := by
  have admits := of_decide_eq_true admits
  have placed (l : Lane) := laneCount_insertEntry l e s.planner.queue
  have a := placed .a
  have b := placed .b
  simp only [QueueAdmitted, placeEntry, State.withQueue_planner, Planner.beyondReserves, Planner.sharedCapacity]
    at admitted ⊢
  cases lane : e.lane <;>
    simp only [lane, Planner.reserve, Planner.beyondReserves, Planner.sharedCapacity, reduceCtorEq, if_true, if_false]
      at admits a b <;> omega

/-! ### Steps of the planner in a mode that steers -/

/-- Every series is RUNNING (R145). -/
def AllRunning (s : State) : Prop := ∀ x ∈ s.planner.series, x.state = .running

/-- Nothing is booked and no series runs (R145, R148). -/
def NothingRuns (s : State) : Prop := s.planner.queue = [] ∧ ∀ x ∈ s.planner.series, x.state = .suspended

/-- A step of the window planner that keeps the series RUNNING and the queue within the shared capacity. -/
structure SteeredStep (s t : State) : Prop where
  frame : PlannerStep s t
  running : AllRunning s → AllRunning t
  admitted : QueueAdmitted s → QueueAdmitted t

theorem SteeredStep.refl (s : State) : SteeredStep s s := ⟨.refl s, id, id⟩

theorem SteeredStep.trans {s t u : State} (h : SteeredStep s t) (h' : SteeredStep t u) : SteeredStep s u :=
  ⟨h.frame.trans h'.frame, h'.running ∘ h.running, h'.admitted ∘ h.admitted⟩

theorem handReport_steered (k : ReportKind) (fs : List Byte) (s : State) : SteeredStep s (handReport k fs s) :=
  ⟨handReport_plannerStep k fs s, id, id⟩

theorem shiftedReport_steered (e : Reservation) (s : State) : SteeredStep s (shiftedReport e s) :=
  handReport_steered _ _ s

theorem displacedReport_steered (e : Reservation) (reason : DisplacedReason) (s : State) :
    SteeredStep s (displacedReport e reason s) := handReport_steered _ _ s

/-- A series changed in all but its state. -/
theorem State.updateSeries_steered (s : State) (id : Nat) {f : Series → Series} (h : ∀ x, (f x).state = x.state) :
    SteeredStep s (s.updateSeries id f) where
  frame := s.updateSeries_plannerStep id f
  admitted := fun admitted => admitted
  running := fun running y mem => by
    obtain ⟨x, old, rfl⟩ := List.mem_map.1 mem
    split
    · exact (h x).trans (running x old)
    · exact running x old

theorem placeEntry_steered {s : State} {e : Reservation} (admits : s.planner.admits e.lane = true) :
    SteeredStep s (placeEntry e s) :=
  ⟨placeEntry_plannerStep e s, id, placeEntry_admitted admits⟩

/-- A queue with no more entries of either lane. -/
theorem withQueue_steered {s : State} {q : List Reservation} (fewer : ∀ l, laneCount l q ≤ laneCount l s.planner.queue) :
    SteeredStep s (s.withQueue q) :=
  ⟨s.withQueue_plannerStep q, id, fun admitted => admitted.of_fewer rfl rfl fewer⟩

theorem removeEntry_steered (x : Instant) (s : State) : SteeredStep s (removeEntry x s) :=
  withQueue_steered fun l => laneCount_sublist l List.filter_sublist

/-- An entry keeps its lane whatever its state. -/
theorem setEntryState_steered (x : Instant) (st : EntryState) (s : State) : SteeredStep s (setEntryState x st s) :=
  withQueue_steered fun l => le_of_eq (by
    rw [laneCount_eq, laneCount_eq, List.countP_map]
    refine List.countP_congr fun e _ => ?_
    rw [Function.comp_apply]
    split <;> exact Iff.rfl)

/-- A search that is made only where an entry is admitted has found nothing where it is not. -/
theorem admits_of_search {α : Type} {admits : Bool} {search : Option α} {d : α}
    (found : (if admits = true then search else none) = some d) : admits = true := by
  by_contra refused
  rw [if_neg refused] at found
  cases found

theorem rebase_steered (id : Nat) (cause : RebaseCause) (s : State) : SteeredStep s (rebase id cause s) := by
  unfold rebase
  split
  · exact .refl s
  · rename_i x _
    split
    · rename_i d found
      have admits : s.planner.admits x.lane = true := admits_of_search found
      exact ((s.updateSeries_steered id fun _ => by rfl).trans (placeEntry_steered (by exact admits))).trans (handReport_steered _ _ _)
    · exact s.updateSeries_steered id fun _ => by rfl

theorem tryOccurrence_steered {x : Series} {s t : State} (placed : tryOccurrence x s = some t) : SteeredStep s t := by
  unfold tryOccurrence at placed
  dsimp only at placed
  split at placed
  · rename_i d found
    cases placed
    exact placeEntry_steered (admits_of_search found)
  · cases placed

theorem countSkip_steered (id : Nat) (s : State) : SteeredStep s (countSkip id s) := s.updateSeries_steered id fun _ => by rfl

theorem nextIndex_steered (id : Nat) (s : State) : SteeredStep s (nextIndex id s) := s.updateSeries_steered id fun _ => by rfl

theorem tryOccurrences_steered (n id : Nat) (s : State) : SteeredStep s (tryOccurrences n id s) := by
  induction n generalizing s with
  | zero => exact .refl s
  | succ n ih =>
    unfold tryOccurrences
    split
    · exact .refl s
    · split
      · exact tryOccurrence_steered ‹_›
      · split
        · exact ((countSkip_steered id s).trans (nextIndex_steered id _)).trans (ih _)
        · exact (countSkip_steered id s).trans (rebase_steered id _ _)

theorem skipOccurrence_steered (id : Nat) (s : State) : SteeredStep s (skipOccurrence id s) := by
  unfold skipOccurrence
  split
  · exact .refl s
  · split
    · exact ((countSkip_steered id s).trans (nextIndex_steered id _)).trans (tryOccurrences_steered _ _ _)
    · exact (countSkip_steered id s).trans (rebase_steered id _ _)

/-- An entry moved is one taken out and one of the same lane put in. -/
theorem moveEntry_steered {s : State} {e moved : Reservation} (mem : e ∈ s.planner.queue) (lane : moved.lane = e.lane) :
    SteeredStep s (placeEntry moved (removeEntry e.start s)) where
  frame := (removeEntry_plannerStep _ s).trans (placeEntry_plannerStep _ _)
  running := fun running => running
  admitted := fun admitted => admitted.of_fewer rfl rfl fun l => by
    show laneCount l (insertEntry moved (s.planner.queue.filter (fun x => decide (x.start ≠ e.start)))) ≤ _
    rw [laneCount_insertEntry, lane]
    exact laneCount_filter_lt mem (by simp) l

/-- A re-check keeps, moves or removes the entry, and a removed one of a series is skipped (R131). -/
theorem recheck_steered (x : Instant) (s : State) : SteeredStep s (recheck x s) := by
  unfold recheck
  split
  · exact .refl s
  · rename_i e pending
    have mem : e ∈ s.planner.queue := List.mem_of_find?_eq_some pending
    obtain ⟨rfl, _⟩ : e.start = x ∧ e.state = .pending := by simpa using List.find?_some (l := s.planner.queue) pending
    dsimp only
    split
    · exact setEntryState_steered _ _ _
    · split
      · exact (moveEntry_steered mem (by rfl)).trans (shiftedReport_steered _ _)
      · have removed := (removeEntry_steered e.start s).trans (displacedReport_steered e .prediction _)
        split
        · exact removed
        · exact removed.trans (skipOccurrence_steered _ _)

theorem retryIfHeld_steered (s : State) (id : Nat) : SteeredStep s (retryIfHeld s id) := by
  unfold retryIfHeld
  split
  · split
    · exact rebase_steered _ _ _
    · exact .refl s
  · exact .refl s

theorem planChange_steered (s : State) : SteeredStep s (planChange s) :=
  (foldl_rel SteeredStep .refl .trans _ (fun s x => recheck_steered x s) _ s).trans
    (foldl_rel SteeredStep .refl .trans _ retryIfHeld_steered _ _)

/-- Series rebased one after another. -/
theorem rebaseAll_steered (cause : RebaseCause) (ids : List Nat) (s : State) :
    SteeredStep s (ids.foldl (fun s id => rebase id cause s) s) :=
  foldl_rel SteeredStep .refl .trans _ (fun s id => rebase_steered id cause s) ids s

theorem occurrenceOpened_steered (id : Nat) (s : State) : SteeredStep s (occurrenceOpened id s) :=
  (s.updateSeries_steered id fun _ => by rfl).trans (tryOccurrences_steered _ _ _)

theorem openEntry_steered (e : Reservation) (s : State) : SteeredStep s (openEntry e s) := by
  unfold openEntry
  dsimp only
  split
  · exact setEntryState_steered _ _ s
  · exact (setEntryState_steered _ _ s).trans (occurrenceOpened_steered _ _)

theorem rebaseForChannel_steered (s : State) : SteeredStep s (rebaseForChannel s) :=
  (withQueue_steered fun _ => Nat.zero_le _).trans (rebaseAll_steered _ _ _)

/-! ### The planner where nothing runs -/

section
variable {s : State} (idle : NothingRuns s)
include idle

/-- A series that is read where nothing runs is SUSPENDED. -/
theorem seriesById_suspended {id : Nat} {x : Series} (h : s.seriesById id = some x) : x.state = .suspended :=
  idle.2 x (List.mem_of_find?_eq_some h)

theorem retryIfHeld_idle (id : Nat) : retryIfHeld s id = s := by
  unfold retryIfHeld
  split
  · rename_i x found
    rw [if_neg fun held => by rw [seriesById_suspended idle found] at held; exact nomatch held.1]
  · rfl

/-- A plan change finds nothing to re-check and no series to retry. -/
theorem planChange_idle : planChange s = s := by
  unfold planChange
  rw [idle.1]
  show seriesIds.foldl retryIfHeld s = s
  simp only [seriesIds, List.foldl_cons, List.foldl_nil, retryIfHeld_idle idle]

/-- A change of channel finds nothing to remove and no series to rebase. -/
theorem rebaseForChannel_idle : rebaseForChannel s = s := by
  have none_running : s.planner.series.filter (fun x => decide (x.state = .running)) = [] :=
    List.filter_eq_nil_iff.2 fun x mem => by simp [idle.2 x mem]
  have queue : s.withQueue [] = s := by rw [← idle.1]; rfl
  unfold rebaseForChannel
  rw [none_running, queue]
  rfl

theorem takeCommitPoint_idle : takeCommitPoint s = s := by simp only [takeCommitPoint, commitDue, idle.1, List.find?_nil]

theorem takeWindowStart_idle : takeWindowStart s = s := by simp only [takeWindowStart, startDue, idle.1, List.find?_nil]

theorem takeWindowEnd_idle : takeWindowEnd s = s := by simp only [takeWindowEnd, endDue, idle.1, List.find?_nil]

theorem takeRetry_idle : takeRetry s = s := by
  have nobody : retryDue s = none := List.find?_eq_none.2 fun id _ reached => by
    unfold retryReached at reached
    split at reached
    · rename_i x found
      split at reached
      · rw [seriesById_suspended idle found] at reached
        exact nomatch reached
      · exact nomatch reached
    · exact nomatch reached
  rw [takeRetry, nobody]

end

end Sys2Proof.Machine
end

section
/-! PROOFS. What the mode allows, kept by changes of mode, escalations, the tracking unit and deliveries. -/

namespace Sys2Proof.Machine

/-! ### What the mode allows, carried from one state to another -/

/-- The bookings, the queue and the lines are as the mode allows. -/
def ModeAllows (s : State) : Prop := BookingsByMode s ∧ QueueAdmitted s ∧ LinesByMode s

/-- The state after is as its mode allows whenever the state before was. -/
def AllowedKept (s t : State) : Prop := ModeAllows s → ModeAllows t

theorem AllowedKept.refl (s : State) : AllowedKept s s := id

theorem AllowedKept.trans {s t u : State} (h : AllowedKept s t) (h' : AllowedKept t u) : AllowedKept s u := h' ∘ h

/-- The mode and the window planner alone count. -/
theorem AllowedKept.of_eq {s t : State} (mode : t.control.mode = s.control.mode) (planner : t.planner = s.planner) :
    AllowedKept s t := by
  unfold AllowedKept ModeAllows BookingsByMode QueueAdmitted LinesByMode
  rw [mode, planner]
  exact id

/-- Out of the modes that steer nothing runs (R145, R148). -/
theorem BookingsByMode.nothingRuns {s : State} (h : BookingsByMode s) (mode : s.control.mode.steers = false) :
    NothingRuns s := by
  obtain ⟨_, idle, _, _⟩ := h
  exact ⟨(idle mode).1, fun x mem => ((idle mode).2 x mem).1⟩

theorem Mode.ne_standby_of_steers {m : Mode} (h : m.steers = true) : m ≠ .standby := by
  rintro rfl
  cases h

/-- A mode that steers, with every series RUNNING and a template in FALLBACK. -/
theorem BookingsByMode.of_steers {s : State} (mode : s.control.mode.steers = true) (running : AllRunning s)
    (template : s.control.mode = .fallback → s.planner.template.isSome = true) : BookingsByMode s :=
  ⟨fun _ => running, fun other => (Bool.false_ne_true (other.symm.trans mode)).elim,
    fun standby => absurd standby (Mode.ne_standby_of_steers mode), template⟩

/-- OBSERVE or HOLD, with an empty queue and every series SUSPENDED. -/
theorem BookingsByMode.of_quiet {s : State} (mode : s.control.mode.steers = false) (standby : s.control.mode ≠ .standby)
    (queue : s.planner.queue = []) (series : ∀ x ∈ s.planner.series, x.state = .suspended ∧ x.retry = none) :
    BookingsByMode s :=
  ⟨fun other => (Bool.false_ne_true (mode.symm.trans other)).elim, fun _ => ⟨queue, series⟩,
    fun other => absurd other standby, fun fallback => by rw [fallback] at mode; cases mode⟩

/-- STANDBY with nothing booked. -/
theorem BookingsByMode.of_standby {s : State} (standby : s.control.mode = .standby) (queue : s.planner.queue = [])
    (series : s.planner.series = []) : BookingsByMode s := by
  refine ⟨fun steers => ?_, fun _ => ⟨queue, fun x mem => ?_⟩, fun _ => series, fun fallback => ?_⟩
  · exact absurd standby (Mode.ne_standby_of_steers steers)
  · rw [series] at mem; cases mem
  · rw [standby] at fallback; cases fallback

/-! ### The lines and the planner's operations -/

/-- Re-formed lines show what the mode gives (R116, R118). -/
theorem reform_lines (s : State) : LinesByMode (reform s) :=
  ⟨fun mode => mode.elim (reform_standby (s := s)) (reform_observe (s := s)), reform_hold (s := s)⟩

theorem reform_allows {s : State} (bookings : BookingsByMode s) (admitted : QueueAdmitted s) : ModeAllows (reform s) :=
  ⟨bookings, admitted, reform_lines s⟩

theorem reform_allowed (s : State) : AllowedKept s (reform s) := fun ⟨bookings, admitted, _⟩ =>
  reform_allows bookings admitted

/-- In a mode that steers, a step of the planner keeps what the mode allows. -/
theorem SteeredStep.allows {s t : State} (step : SteeredStep s t) (steers : s.control.mode.steers = true)
    (h : ModeAllows s) : ModeAllows t := by
  obtain ⟨⟨running, _, _, template⟩, admitted, lines⟩ := h
  have mode : t.control = s.control := step.frame.control
  refine ⟨.of_steers (mode ▸ steers) (step.running (running steers)) ?_, step.admitted admitted, ?_⟩
  · rw [mode, step.frame.template]
    exact template
  · unfold LinesByMode
    rw [mode, step.frame.lines]
    exact lines

/-- An operation of the planner that does nothing where nothing runs keeps what the mode allows in every mode. -/
theorem SteeredStep.allowed {s t : State} (step : SteeredStep s t) (idle : NothingRuns s → t = s) : AllowedKept s t := by
  intro h
  cases mode : s.control.mode.steers with
  | true => exact step.allows mode h
  | false => exact (idle (h.1.nothingRuns mode)).symm ▸ h

theorem planChange_allowed (s : State) : AllowedKept s (planChange s) := (planChange_steered s).allowed planChange_idle

theorem planChangeIf_allowed (notice : Bool) (s : State) : AllowedKept s (planChangeIf notice s) := by
  unfold planChangeIf
  split
  · exact planChange_allowed s
  · exact .refl s

theorem rebaseForChannel_allowed (s : State) : AllowedKept s (rebaseForChannel s) :=
  (rebaseForChannel_steered s).allowed rebaseForChannel_idle

theorem takeCommitPoint_allowed (s : State) : AllowedKept s (takeCommitPoint s) := by
  refine SteeredStep.allowed ?_ takeCommitPoint_idle
  unfold takeCommitPoint
  split
  · exact recheck_steered _ s
  · exact .refl s

theorem takeWindowStart_allowed (s : State) : AllowedKept s (takeWindowStart s) := by
  refine SteeredStep.allowed ?_ takeWindowStart_idle
  unfold takeWindowStart
  split
  · exact openEntry_steered _ s
  · exact .refl s

theorem takeWindowEnd_allowed (s : State) : AllowedKept s (takeWindowEnd s) := by
  refine SteeredStep.allowed ?_ takeWindowEnd_idle
  unfold takeWindowEnd
  split
  · exact removeEntry_steered _ s
  · exact .refl s

theorem takeRetry_allowed (s : State) : AllowedKept s (takeRetry s) := by
  refine SteeredStep.allowed ?_ takeRetry_idle
  unfold takeRetry
  split
  · exact rebase_steered _ _ s
  · exact .refl s

/-! ### Changes of mode (R145, R146, R170) -/

section
variable {m : Mode} {s : State} (h : ModeAllows s)
include h

/-- Between two modes that both steer or both do not, the bookings may stay as they are. -/
theorem setMode_allows (running_mode : m ≠ .standby) (template : m = .fallback → s.planner.template.isSome = true)
    (same : s.control.mode.steers = m.steers) : ModeAllows (reform (s.setMode m)) := by
  obtain ⟨⟨running, idle, _, _⟩, admitted, _⟩ := h
  refine reform_allows ?_ admitted
  cases steers : m.steers with
  | true => exact .of_steers steers (running (same.trans steers)) template
  | false =>
    obtain ⟨queue, series⟩ := idle (same.trans steers)
    exact .of_quiet steers running_mode queue series

/-- Leaving a mode that steers empties the queue and suspends the series (R145). -/
theorem suspendBookings_allows (running_mode : m ≠ .standby) (quiet : m.steers = false) :
    ModeAllows (suspendBookings (reform (s.setMode m))) := by
  obtain ⟨_, ⟨reserveA, reserveB, _⟩, _⟩ := h
  rw [suspendBookings_eq]
  refine ⟨.of_quiet quiet running_mode rfl fun x mem => ?_, .of_empty reserveA reserveB rfl, reform_lines (s.setMode m)⟩
  obtain ⟨y, _, rfl⟩ := List.mem_map.1 mem
  exact ⟨rfl, rfl⟩

/-- Entering a mode that steers makes every series RUNNING and rebases those that were SUSPENDED (R146). -/
theorem resumeBookings_allows (steers : m.steers = true)
    (template : m = .fallback → s.planner.template.isSome = true) :
    ModeAllows (resumeBookings (reform (s.setMode m))) := by
  obtain ⟨_, admitted, _⟩ := h
  refine (rebaseAll_steered .resume _ _).allows steers ⟨.of_steers steers (fun x mem => ?_) template, admitted,
    reform_lines (s.setMode m)⟩
  obtain ⟨y, _, rfl⟩ := List.mem_map.1 mem
  rfl

end

/-- A change to a running mode keeps what the modes allow: FALLBACK is entered only with a template (R170). -/
theorem changeMode_allowed {m : Mode} {s : State} (running_mode : m ≠ .standby)
    (template : m = .fallback → s.planner.template.isSome = true) : AllowedKept s (changeMode m s) := by
  intro h
  unfold changeMode
  dsimp only
  split
  · rename_i same
    exact setMode_allows h running_mode template (congrArg Mode.steers same)
  · cases old : s.control.mode.steers <;> cases new : m.steers
    · exact setMode_allows h running_mode template (old.trans new.symm)
    · exact resumeBookings_allows h new template
    · exact suspendBookings_allows h running_mode new
    · exact planChange_allowed _ (setMode_allows h running_mode template (old.trans new.symm))

/-! ### The tracking unit leaves the bookings to its notices (R84) -/

section
variable (id : Nat) (t : Tracker) (r : BurstRecord) (s : State)

theorem acquiringHit_allowed : AllowedKept s (acquiringHit id t r s).1 := by
  unfold acquiringHit
  dsimp only
  split <;> exact .of_eq rfl rfl

theorem lockedHit_allowed : AllowedKept s (lockedHit id t r s).1 := by
  unfold lockedHit
  dsimp only
  split <;> exact .of_eq rfl rfl

theorem associate_allowed : AllowedKept s (associate id r s).1 := by
  unfold associate
  dsimp only
  split
  · exact .of_eq rfl rfl
  · split
    · exact acquiringHit_allowed id _ r s
    · exact lockedHit_allowed id _ r s
    · exact acquiringHit_allowed id _ r (trackerReport id _ .dormant .acquiring .revived (s.setTracker id _))
    · exact .refl s
    · exact .refl s

theorem tryAnchor_allowed : AllowedKept s (tryAnchor r s).1 := by
  unfold tryAnchor
  split
  · exact .of_eq rfl rfl
  · exact .refl s

theorem freeTracker_allowed (cause : TrackerCause) : AllowedKept s (freeTracker id cause s) := .of_eq rfl rfl

theorem allocate_allowed {s v : State} {id : Nat} (place : allocate s = some (v, id)) : AllowedKept s v := by
  unfold allocate at place
  split at place
  · cases place; exact .refl s
  · split at place
    · cases place; exact freeTracker_allowed _ s .evicted
    · cases place

theorem candidateTest_allowed : AllowedKept s (candidateTest r s).1 := by
  unfold candidateTest
  split
  · split
    · exact .of_eq rfl rfl
    · split
      · rename_i v j place
        exact (allocate_allowed place).trans (.of_eq rfl rfl)
      · exact .refl s
  · exact .refl s

theorem recordOutcome_allowed : AllowedKept s (recordOutcome r s).1.1 := by
  unfold recordOutcome
  split
  · exact associate_allowed _ r s
  · split
    · exact tryAnchor_allowed r s
    · exact candidateTest_allowed r s

theorem miss_allowed : AllowedKept s (miss id s).1 := by
  unfold miss
  dsimp only
  split
  · split <;> exact .of_eq rfl rfl
  · split
    · split <;> exact .of_eq rfl rfl
    · exact .of_eq rfl rfl
  all_goals exact .of_eq rfl rfl

theorem dropPending_allowed : AllowedKept s (dropPending id s) := .of_eq rfl rfl

theorem settleAsMiss_allowed : AllowedKept s (settleAsMiss id s).1 :=
  (dropPending_allowed id s).trans (miss_allowed id _)

theorem settleByRecord_allowed (assoc : Option Nat) (p : Noticed) : AllowedKept p.1 (settleByRecord r assoc p id).1 := by
  unfold settleByRecord
  split
  · split
    · split
      · exact dropPending_allowed id _
      · exact settleAsMiss_allowed id _
    · exact .refl _
  · exact .refl _

theorem sweepEntry_allowed (p : Noticed) : AllowedKept p.1 (sweepEntry p id).1 := by
  unfold sweepEntry
  split
  · split
    · exact .refl _
    · exact settleAsMiss_allowed id _
  · exact .refl _

theorem relearnEntry_allowed (p : Noticed) : AllowedKept p.1 (relearnEntry p id).1 := by
  unfold relearnEntry
  dsimp only
  split
  · exact .of_eq rfl rfl
  · exact .refl _

/-- A fold over the table that carries its notice along. -/
theorem foldl_noticed_allowed {f : Noticed → Nat → Noticed} (step : ∀ id p, AllowedKept p.1 (f p id).1) (ids : List Nat)
    (p : Noticed) : AllowedKept p.1 (ids.foldl f p).1 := by
  induction ids generalizing p with
  | nil => exact .refl _
  | cons id ids ih => exact (step id p).trans (ih _)

/-- The tracking unit's taking of a record, with its notice (R60, R84). -/
theorem trackRecord_allowed : AllowedKept s (trackRecord r s).1 := by
  have settled := (recordOutcome_allowed r s).trans
    (foldl_noticed_allowed (fun id p => settleByRecord_allowed id r (recordOutcome r s).2 p) trackerIds _)
  unfold trackRecord
  dsimp only
  exact settled.trans (planChangeIf_allowed _ _)

theorem sweepPending_allowed : AllowedKept s (sweepPending s) := by
  have swept := foldl_noticed_allowed sweepEntry_allowed trackerIds (s, false)
  unfold sweepPending
  exact swept.trans (planChangeIf_allowed _ _)

theorem relearn_allowed : AllowedKept s (relearn s) := by
  have demoted := foldl_noticed_allowed relearnEntry_allowed trackerIds (s, false)
  unfold relearn
  exact demoted.trans (planChangeIf_allowed _ _)

theorem decideRise_allowed : AllowedKept s (decideRise id s).1 := by
  unfold decideRise
  split
  · unfold retestRise
    dsimp only
    split
    · exact .refl s
    · split
      · split
        · exact .of_eq rfl rfl
        · exact settleAsMiss_allowed id s
      · exact dropPending_allowed id s
  · unfold testNextRise
    dsimp only
    split
    · split
      · exact .of_eq rfl rfl
      · exact miss_allowed id (s.setTracker id _)
    · exact .of_eq rfl rfl

theorem ageTracker_allowed : AllowedKept s (ageTracker id s).1 := by
  unfold ageTracker
  dsimp only
  split
  · exact .of_eq rfl rfl
  · split <;> exact .of_eq rfl rfl
  all_goals exact .refl s

theorem ageDormant_allowed : AllowedKept s (ageDormant id s).1 := by
  unfold ageDormant
  dsimp only
  split <;> exact .of_eq rfl rfl

theorem freeCandidates_allowed : AllowedKept s (freeCandidates s) :=
  foldl_rel AllowedKept .refl .trans _
    (fun s id => by
      split
      · exact freeTracker_allowed id s .channel
      · exact .refl s) _ s

theorem applyMissLimit_allowed : AllowedKept s (applyMissLimit s) :=
  foldl_rel AllowedKept .refl .trans _
    (fun s id => by
      split
      · exact .of_eq rfl rfl
      · exact .refl s) _ s

end

/-! ### Escalations (R155 to R157) -/

/-- FALLBACK is the target only with a template (R157). -/
theorem fallbackTarget_template {s : State} (h : fallbackTarget s = .fallback) : s.planner.template.isSome = true := by
  unfold fallbackTarget at h
  split at h
  · rename_i present
    rw [present]
    rfl
  all_goals cases h

theorem fallbackTarget_ne_standby (s : State) : fallbackTarget s ≠ .standby := by
  unfold fallbackTarget
  split <;> exact nofun

/-- The reports and replies of an escalation's change of mode are the link controller's (R172, R173). -/
theorem escalateMode_allowed {m : Mode} {s : State} (running_mode : m ≠ .standby)
    (template : m = .fallback → s.planner.template.isSome = true) : AllowedKept s (escalateMode m s).1 :=
  (changeMode_allowed running_mode template).trans (.of_eq rfl rfl)

theorem applyPolicy_allowed (s : State) : AllowedKept s (applyPolicy s).1 := by
  unfold applyPolicy
  split
  · exact .refl s
  · dsimp only
    exact relearn_allowed s
  · exact escalateMode_allowed (fallbackTarget_ne_standby s) fallbackTarget_template
  · exact escalateMode_allowed nofun nofun

theorem escalate_allowed (r : BurstRecord) (s : State) : AllowedKept s (escalate r s) :=
  (AllowedKept.trans (.of_eq rfl rfl) (applyPolicy_allowed (s.withEscalation { s.escalation with score := 0 }))).trans
    (.of_eq rfl rfl)

theorem escalationTest_allowed (r : BurstRecord) (assoc : Option Nat) (s : State) :
    AllowedKept s (escalationTest r assoc s) := by
  have counted : AllowedKept s (s.withEscalation { s.escalation with score := saturate 15 s.escalation.score }) :=
    .of_eq rfl rfl
  unfold escalationTest countSurprise
  dsimp only
  split
  · split
    · exact counted.trans (escalate_allowed r _)
    · exact counted
  · exact .refl s

/-! ### Delivery, assembly and releases (R23 to R26, R28) -/

/-- A change of the sense receiver alone. -/
theorem withSense_allowed (s : State) (x : Sense) : AllowedKept s (s.withSense x) := .of_eq rfl rfl

/-- A change of the dwell scheduler alone. -/
theorem withDwells_allowed (s : State) (d : Dwells) : AllowedKept s (s.withDwells d) := .of_eq rfl rfl

theorem deliver_allowed (r : BurstRecord) (s : State) : AllowedKept s (deliver r s) :=
  ((trackRecord_allowed r s).trans (escalationTest_allowed r _ _)).trans (withDwells_allowed _ _)

theorem hold_allowed (r : BurstRecord) (s : State) : AllowedKept s (hold r s) := by
  unfold hold
  dsimp only
  split
  · exact (withSense_allowed s _).trans (deliver_allowed r (s.withHeld none))
  · exact withSense_allowed s _

theorem assemble_allowed (r : BurstRecord) (s : State) : AllowedKept s (assemble r s) := by
  unfold assemble
  split
  · exact deliver_allowed r s
  · split
    · exact hold_allowed r s
    · split
      · exact hold_allowed _ s
      · exact ((withSense_allowed s _).trans (deliver_allowed _ (s.withHeld none))).trans (hold_allowed r _)

theorem releaseHeld_allowed (s : State) : AllowedKept s (releaseHeld s) := by
  unfold releaseHeld
  split
  · exact (withSense_allowed s _).trans (deliver_allowed _ (s.withHeld none))
  · exact .refl s

theorem releaseAndSweep_allowed (s : State) : AllowedKept s (sweepPending (releaseHeld s)) :=
  (releaseHeld_allowed s).trans (sweepPending_allowed _)

/-- The releases and settlements that follow an event of the sense receiver (R24, R73). -/
theorem followUp_allowed (s : State) : AllowedKept s (sweepPending (releaseOverdue s)) := by
  refine AllowedKept.trans ?_ (sweepPending_allowed _)
  unfold releaseOverdue
  split
  · split
    · exact releaseHeld_allowed s
    · exact .refl s
  · exact .refl s

theorem cutLongBurst_allowed (s : State) : AllowedKept s (cutLongBurst s) := by
  unfold cutLongBurst
  split
  · exact .refl s
  · exact ((withSense_allowed s _).trans (assemble_allowed _ (restartDetection s))).trans (followUp_allowed _)

theorem takeReading_allowed (level : Int) (preamble : Bool) (s : State) : AllowedKept s (takeReading level preamble s) := by
  unfold takeReading
  refine AllowedKept.trans ?_ (followUp_allowed _)
  split
  · exact .of_eq rfl rfl
  · unfold readInBurst
    split
    · exact .of_eq rfl rfl
    · split
      · exact AllowedKept.trans (.of_eq rfl rfl) (assemble_allowed _ (s.withSense { s.sense with readingTaken := true }).quiet)
      · exact .of_eq rfl rfl

theorem startBlanking_allowed (s : State) : AllowedKept s (startBlanking s) := by
  have begun : AllowedKept s (blanked s) := .of_eq rfl rfl
  by_cases inactive : s.sense.blanking = .inactive
  · cases det : s.sense.detector with
    | quiet run =>
      rw [startBlanking_quiet inactive det]
      exact begun.trans (followUp_allowed _)
    | inBurst below b =>
      rw [startBlanking_burst inactive det]
      exact (begun.trans (assemble_allowed _ _)).trans (followUp_allowed _)
  · rw [startBlanking_again inactive]
    exact .of_eq rfl rfl

theorem endBlanking_allowed (s : State) : AllowedKept s (endBlanking s) := by
  by_cases settled : s.sense.tuning = .settled
  · rw [endBlanking_settled settled]
    exact .of_eq rfl rfl
  · rw [endBlanking_unsettled settled]
    exact .of_eq rfl rfl

theorem startTail_allowed (s : State) : AllowedKept s (startTail s) := by
  unfold startTail
  split
  · exact .refl s
  · exact .refl s
  · split
    · exact endBlanking_allowed s
    · exact withSense_allowed s _

theorem senseDwellEnd_allowed (s : State) : AllowedKept s (senseDwellEnd s) := by
  have released : AllowedKept s (released s) := .of_eq rfl rfl
  refine released.trans (AllowedKept.trans ?_ (sweepPending_allowed _))
  split
  · exact .refl _
  · exact deliver_allowed _ _
  · exact deliver_allowed _ _
  · split
    · exact deliver_allowed _ _
    · exact (deliver_allowed _ _).trans (deliver_allowed _ _)

/-! ### Dwells leave the bookings to the records they deliver (R35 to R46) -/

theorem startDwell_allowed (kind : DwellKind) (c len : Nat) (s : State) : AllowedKept s (startDwell kind c len s) := by
  rw [startDwell_eq, senseDwellStart_eq]
  exact .of_eq rfl rfl

theorem startOperating_allowed (s : State) : AllowedKept s (startOperating s) := by
  unfold startOperating
  split
  · exact withDwells_allowed s _
  · exact (withDwells_allowed s _).trans (startDwell_allowed _ _ _ _)

theorem startSequenceDwell_allowed (s : State) : AllowedKept s (startSequenceDwell s) := by
  unfold startSequenceDwell
  split
  · exact startOperating_allowed s
  · split
    · exact startOperating_allowed s
    · exact (withDwells_allowed s _).trans (startDwell_allowed _ _ _ _)

theorem applyPlan_allowed (s : State) : AllowedKept s (applyPlan s) := by
  rw [applyPlan_eq]
  exact withDwells_allowed s _

theorem startNextDwell_allowed (plannedEnd : Bool) (s : State) : AllowedKept s (startNextDwell plannedEnd s) := by
  refine (applyPlan_allowed s).trans ?_
  unfold startNextDwell
  dsimp only
  split
  · exact (withDwells_allowed _ _).trans (startDwell_allowed _ _ _ _)
  · exact startSequenceDwell_allowed _

theorem beginSequence_allowed (s : State) : AllowedKept s (beginSequence s) :=
  ((applyPlan_allowed s).trans (withDwells_allowed _ _)).trans (startOperating_allowed _)

theorem closeDwell_allowed (s : State) : AllowedKept s (closeDwell s) := by
  refine (senseDwellEnd_allowed s).trans ?_
  unfold closeDwell
  dsimp only
  split
  · rw [updateRecord_eq]
    exact withDwells_allowed _ _
  · exact .refl _

theorem afterDwell_allowed (d : Dwell) (s : State) : AllowedKept s (afterDwell d s) := by
  rw [afterDwell_changes]
  exact .of_eq rfl rfl

theorem endDwell_allowed (s : State) : AllowedKept s (endDwell s) := by
  refine (closeDwell_allowed s).trans ?_
  unfold endDwell
  dsimp only
  refine AllowedKept.trans ?_ (startNextDwell_allowed true _)
  split
  · exact afterDwell_allowed _ _
  · exact .refl _

theorem cutDwell_allowed (s : State) : AllowedKept s (cutDwell s) := by
  unfold cutDwell
  split
  · exact .refl s
  · split
    · exact .refl s
    · exact (closeDwell_allowed s).trans (startNextDwell_allowed _ _)
    · exact (closeDwell_allowed s).trans (startNextDwell_allowed _ _)

theorem changeChannel_allowed (c : Nat) (s : State) : AllowedKept s (changeChannel c s) :=
  ((((withDwells_allowed s _).trans (rebaseForChannel_allowed (takeChannel c s))).trans (cutDwell_allowed _)).trans
    (freeCandidates_allowed _)).trans (planChange_allowed _)

end Sys2Proof.Machine
end

section
/-! PROOFS. What the mode allows, kept by every command: requests, the link controller, restarts and the step. -/

namespace Sys2Proof.Machine

/-! ### Bookings taken out and put in -/

/-- Fewer bookings and series than before are as the mode allows. -/
theorem fewerBookings_allowed {s : State} {q : List Reservation} {xs : List Series} (queue : q.Sublist s.planner.queue)
    (series : xs ⊆ s.planner.series) :
    AllowedKept s (s.withPlanner { s.planner with queue := q, series := xs }) := by
  rintro ⟨⟨running, idle, standby, template⟩, admitted, lines⟩
  refine ⟨⟨fun steers x mem => running steers x (series mem), fun quiet => ?_, fun mode => ?_, template⟩,
    admitted.of_fewer rfl rfl fun l => laneCount_sublist l queue, lines⟩
  · obtain ⟨empty, suspended⟩ := idle quiet
    exact ⟨List.sublist_nil.1 (empty ▸ queue), fun x mem => suspended x (series mem)⟩
  · exact List.subset_nil.1 (standby mode ▸ series)

/-- A template put in the place of the old one, or of none. -/
theorem withTemplate_allowed {s : State} {t : Option Template}
    (kept : s.control.mode = .fallback → s.planner.template.isSome = true → t.isSome = true) :
    AllowedKept s (s.withTemplate t) :=
  fun ⟨⟨running, idle, standby, template⟩, admitted, lines⟩ =>
    ⟨⟨running, idle, standby, fun mode => kept mode (template mode)⟩, admitted, lines⟩

/-- A planner with nothing booked, its lines OPEN, in STANDBY: what STOP and every restart leave (R113, R148). -/
theorem ModeAllows.of_standby {t : State} (mode : t.control.mode = .standby) (queue : t.planner.queue = [])
    (series : t.planner.series = []) (lines : t.planner.lines = .openAir) (reserveA : t.planner.reserveA ≤ 6)
    (reserveB : t.planner.reserveB ≤ 6) : ModeAllows t :=
  ⟨.of_standby mode queue series, .of_empty reserveA reserveB queue, fun _ => lines,
    fun hold => by rw [mode] at hold; cases hold⟩

/-- A series put into the table stands there with those that were. -/
theorem mem_insertSeries {x y : Series} {xs : List Series} (h : y ∈ insertSeries x xs) : y = x ∨ y ∈ xs := by
  induction xs with
  | nil => exact .inl (List.mem_singleton.1 h)
  | cons z xs ih =>
    unfold insertSeries at h
    split at h
    · exact List.mem_cons.1 h
    · rcases List.mem_cons.1 h with rfl | h
      · exact .inr List.mem_cons_self
      · exact (ih h).imp_right (List.mem_cons_of_mem _)

/-! ### Requests -/

/-- A check that refuses the request leaves the state as it is (R188). -/
theorem refuse_or_allowed {b : Prop} [Decidable b] {status : Byte} {s : State} {a : Answer}
    (h : ¬ b → AllowedKept s a.1) : AllowedKept s (if b then refuse status s else a).1 := by
  split
  · exact .refl s
  · exact h ‹_›

section
variable (s : State)

theorem requestClearFlags_allowed (f c : Byte) : AllowedKept s (requestClearFlags f c s).1 := by
  unfold requestClearFlags
  split <;> exact .of_eq rfl rfl

theorem requestRestart_allowed (k : Byte) : AllowedKept s (requestRestart k s).1 := by
  unfold requestRestart
  split
  · exact .of_eq rfl rfl
  · split <;> exact .of_eq rfl rfl

/-- START finds nothing booked, and the lines OPEN as OBSERVE has them too (R167). -/
theorem startChecked_allowed {m : Mode} (started : m = .observe ∨ m = .active) : AllowedKept s (startChecked m s).1 := by
  refine refuse_or_allowed fun standby => refuse_or_allowed fun _ => ?_
  rintro ⟨⟨_, idle, empty, _⟩, admitted, open_lines, _⟩
  have standby := not_not.1 standby
  have queue : s.planner.queue = [] := (idle (by rw [standby]; rfl)).1
  have series (P : Series → Prop) : ∀ x ∈ (s.setMode m).planner.series, P x := by
    rw [State.setMode_planner, empty standby]
    exact nofun
  refine reform_allowed _ (beginSequence_allowed (s.setMode m) ?_)
  rcases started with rfl | rfl
  · exact ⟨.of_quiet rfl nofun queue (series _), admitted, fun _ => open_lines (.inl standby), nofun⟩
  · exact ⟨.of_steers rfl (series _) nofun, admitted, nofun, nofun⟩

theorem requestStart_allowed (m : Byte) : AllowedKept s (requestStart m s).1 := by
  unfold requestStart
  split
  · exact startChecked_allowed s (.inl rfl)
  · split
    · exact startChecked_allowed s (.inr rfl)
    · exact .refl s

/-- STOP leaves nothing booked in STANDBY (R148, R168). -/
theorem stopRunning_allowed : AllowedKept s (stopRunning s) := by
  rintro ⟨_, ⟨reserveA, reserveB, _⟩, _⟩
  unfold stopRunning
  rw [abortSurvey_eq]
  exact reform_allows (.of_standby rfl rfl rfl) (.of_empty reserveA reserveB rfl)

theorem changeByRequest_allowed {m : Mode} (running_mode : m ≠ .standby)
    (template : m = .fallback → s.planner.template.isSome = true) : AllowedKept s (changeByRequest m s).1 :=
  ((changeMode_allowed running_mode template).trans (reform_allowed _)).trans (.of_eq rfl rfl)

/-- FALLBACK is refused without a template (R169). -/
theorem toFallback_allowed : AllowedKept s (toFallback s).1 :=
  refuse_or_allowed fun _ => refuse_or_allowed fun present => changeByRequest_allowed s nofun fun _ => by
    simpa [Option.isSome_iff_ne_none] using present

theorem modeArgument_ne_standby {b : Byte} {m : Mode} (h : modeArgument b = some m) : m ≠ .standby := by
  rintro rfl
  unfold modeArgument at h
  repeat' split at h
  all_goals cases h

theorem requestSetMode_allowed (b : Byte) : AllowedKept s (requestSetMode b s).1 := by
  unfold requestSetMode
  split
  · exact .refl s
  · rename_i m argument
    refine refuse_or_allowed fun _ => ?_
    split
    · exact .of_eq rfl rfl
    · split
      · exact toFallback_allowed s
      · rename_i other
        exact changeByRequest_allowed s (modeArgument_ne_standby argument) fun same => absurd same other

theorem requestResume_allowed : AllowedKept s (requestResume s).1 := by
  unfold requestResume
  split
  · exact changeByRequest_allowed s nofun nofun
  · exact .refl s

theorem requestSetDetect_allowed (th st : Byte) (tail gap : Half) :
    AllowedKept s (requestSetDetect th st tail gap s).1 := by
  refine refuse_or_allowed fun _ => ?_
  split <;> exact .of_eq rfl rfl

theorem serveSetScan_allowed (count : Byte) (rest : List Byte) : AllowedKept s (serveSetScan count rest s).1 := by
  unfold serveSetScan
  split
  · split
    · refine refuse_or_allowed fun _ => ?_
      split <;> exact .of_eq rfl rfl
    · exact .refl s
  · exact .refl s

theorem requestSetChannel_allowed (c : Byte) : AllowedKept s (requestSetChannel c s).1 := by
  refine refuse_or_allowed fun _ => ?_
  split
  · exact .refl s
  · exact (changeChannel_allowed _ s).trans (reform_allowed _)

theorem requestSurvey_allowed (c : Byte) (d : Half) : AllowedKept s (requestSurvey c d s).1 :=
  refuse_or_allowed fun _ => refuse_or_allowed fun _ => refuse_or_allowed fun _ => withDwells_allowed s _

theorem requestDeclareBeacon_allowed (c : Byte) (i a : Half) : AllowedKept s (requestDeclareBeacon c i a s).1 := by
  refine refuse_or_allowed fun _ => refuse_or_allowed fun _ => ?_
  split
  · exact .refl s
  · rename_i v id place
    have declared : AllowedKept v (trackerReport id .beacon .free .acquiring .declared
        (v.setTracker id (declaredBeacon c.toNat (timeCodeValue i) (timeCodeValue a)))) := .of_eq rfl rfl
    exact (((allocate_allowed place).trans declared).trans (planChange_allowed _)).trans (reform_allowed _)

theorem requestForget_allowed (id : Byte) : AllowedKept s (requestForget id s).1 :=
  refuse_or_allowed fun _ => refuse_or_allowed fun _ =>
    ((freeTracker_allowed id.toNat s .forgotten).trans (planChangeIf_allowed _ _)).trans (reform_allowed _)

theorem applyTracking_allowed (t : TrackSettings) : AllowedKept s (applyTracking t s) :=
  (AllowedKept.trans (.of_eq rfl rfl) (applyMissLimit_allowed (s.withTracking { s.tracking with settings := t }))).trans
    (planChange_allowed _)

theorem requestSetTracking_allowed (g b : Half) (r : Byte) (c : Half) (l m : Byte) :
    AllowedKept s (requestSetTracking g b r c l m s).1 :=
  refuse_or_allowed fun _ => (applyTracking_allowed s _).trans (reform_allowed _)

/-- The rule list and the load threshold are nothing that the mode allows or not (R114). -/
theorem serveSetRules_allowed (count : Byte) (rest : List Byte) : AllowedKept s (serveSetRules count rest s).1 := by
  unfold serveSetRules
  split
  · split
    · refine refuse_or_allowed fun _ => ?_
      split
      · exact .refl s
      · rename_i rules _
        have replaced (n : Nat) : AllowedKept s (replaceRules rules n s) := id
        exact ((replaced _).trans (planChange_allowed _)).trans (reform_allowed _)
    · exact .refl s
  · exact .refl s

theorem requestArmTemplate_allowed (m : Option Half) : AllowedKept s (requestArmTemplate m s).1 := by
  refine refuse_or_allowed fun _ => refuse_or_allowed fun _ => ?_
  split
  · exact .refl s
  · exact (withTemplate_allowed fun _ _ => rfl).trans (planChange_allowed _)

/-- In FALLBACK the template is not dropped (R120). -/
theorem requestDropTemplate_allowed : AllowedKept s (requestDropTemplate s).1 :=
  refuse_or_allowed fun other => refuse_or_allowed fun _ => withTemplate_allowed fun fallback _ => absurd fallback other

/-- A one-shot is placed only in a mode that steers, and only where it is admitted (R129). -/
theorem requestBook_allowed (l t : Byte) (len e d : Half) : AllowedKept s (requestBook l t len e d s).1 := by
  unfold requestBook
  split
  · exact .refl s
  · refine refuse_or_allowed fun _ => refuse_or_allowed fun steers => refuse_or_allowed fun _ =>
      refuse_or_allowed fun admits => ?_
    simp only [Bool.not_eq_true', Bool.not_eq_false] at steers admits
    unfold bookSearch
    dsimp only
    split
    · exact (placeEntry_steered (by exact admits)).allows steers
    · split <;> exact .refl s

theorem requestCancel_allowed (l t : Byte) : AllowedKept s (requestCancel l t s).1 := by
  unfold requestCancel
  split
  · exact .refl s
  · refine refuse_or_allowed fun _ => ?_
    split
    · exact .refl s
    · exact (fewerBookings_allowed List.filter_sublist (List.Subset.refl _)).trans (reform_allowed (dropOneShot _ t s))

/-- A series is opened RUNNING, in a mode that steers, with an entry that is admitted (R140). -/
theorem requestSeriesOpen_allowed (l t : Byte) (p len j : Half) : AllowedKept s (requestSeriesOpen l t p len j s).1 := by
  unfold requestSeriesOpen
  split
  · exact .refl s
  · refine refuse_or_allowed fun _ => refuse_or_allowed fun steers => refuse_or_allowed fun _ =>
      refuse_or_allowed fun _ => refuse_or_allowed fun admits => ?_
    simp only [Bool.not_eq_true', Bool.not_eq_false] at steers admits
    split
    · exact .refl s
    · unfold seriesSearch
      split
      · rintro ⟨⟨running, _, _, template⟩, admitted, lines⟩
        refine (placeEntry_steered (by exact admits)).allows steers
          ⟨.of_steers steers (fun y mem => ?_) template, admitted, lines⟩
        rcases mem_insertSeries mem with rfl | old
        · rfl
        · exact running steers y old
      · exact .refl s

theorem requestSeriesClose_allowed (l t : Byte) : AllowedKept s (requestSeriesClose l t s).1 := by
  unfold requestSeriesClose
  split
  · exact .refl s
  · refine refuse_or_allowed fun _ => ?_
    split
    · exact .refl s
    · exact (fewerBookings_allowed List.filter_sublist (fun _ mem => List.mem_of_mem_filter mem)).trans (reform_allowed (dropSeries _ s))

/-- The reserves are clamped to 6, and in STANDBY nothing is booked (R124). -/
theorem requestSetLanes_allowed (a b : Byte) : AllowedKept s (requestSetLanes a b s).1 := by
  refine refuse_or_allowed fun standby => ?_
  rintro ⟨⟨_, idle, empty, _⟩, _, open_lines, _⟩
  have standby := not_not.1 standby
  have clamped (n : Nat) : clampNat 0 6 n ≤ 6 := by rw [clampNat_eq _ _ _ (by decide)]; omega
  exact .of_standby standby (idle (by rw [standby]; rfl)).1 (empty standby) (open_lines (.inl standby)) (clamped _)
    (clamped _)

theorem requestReadBookings_allowed (p : Byte) : AllowedKept s (requestReadBookings p s).1 := by
  unfold requestReadBookings
  split
  · exact .refl s
  · split <;> exact .refl s

theorem requestSetEscalation_allowed (th p : Byte) : AllowedKept s (requestSetEscalation th p s).1 := by
  unfold requestSetEscalation
  split <;> exact .of_eq rfl rfl

end

/-- Whatever a taken request answers, the state is as its mode allows (R187). -/
theorem Served.allowed {s : State} {a : Answer} (h : Served s a) : AllowedKept s a.1 := by
  cases h with
  | unchanged => exact .refl s
  | setReports e => exact .of_eq rfl rfl
  | clearFlags f c => exact requestClearFlags_allowed s f c
  | restart k => exact requestRestart_allowed s k
  | start m => exact requestStart_allowed s m
  | stop => exact refuse_or_allowed fun _ => stopRunning_allowed s
  | setMode m => exact requestSetMode_allowed s m
  | resume => exact requestResume_allowed s
  | setDetect th st tail gap => exact requestSetDetect_allowed s th st tail gap
  | setScan count rest => exact serveSetScan_allowed s count rest
  | setChannel c => exact requestSetChannel_allowed s c
  | survey c d => exact requestSurvey_allowed s c d
  | declareBeacon c i a => exact requestDeclareBeacon_allowed s c i a
  | forget id => exact requestForget_allowed s id
  | readTracker id => exact refuse_or_allowed fun _ => refuse_or_allowed fun _ => .refl s
  | setTracking g b r c l m => exact requestSetTracking_allowed s g b r c l m
  | setRules count rest => exact serveSetRules_allowed s count rest
  | armTemplate m => exact requestArmTemplate_allowed s m
  | dropTemplate => exact requestDropTemplate_allowed s
  | book l t len e d => exact requestBook_allowed s l t len e d
  | cancel l t => exact requestCancel_allowed s l t
  | seriesOpen l t p len j => exact requestSeriesOpen_allowed s l t p len j
  | seriesClose l t => exact requestSeriesClose_allowed s l t
  | setLanes a b => exact requestSetLanes_allowed s a b
  | readBookings p => exact requestReadBookings_allowed s p
  | setEscalation th p => exact requestSetEscalation_allowed s th p
  | clearFault => exact .of_eq rfl rfl

/-! ### The link controller (R184 to R189) -/

section
variable (s : State)

/-- A change of the link controller alone. -/
theorem withLink_allowed (l : Link) : AllowedKept s (s.withLink l) := .of_eq rfl rfl

theorem pump_allowed : AllowedKept s (pump s) := .of_eq (by rw [pump_control]) (pump_planner s)

theorem placeOrDrop_allowed (f : Frame) : AllowedKept s (placeOrDrop f s) := by
  unfold placeOrDrop
  split <;> exact withLink_allowed s _

theorem takeFrame_allowed (f : Frame) : AllowedKept s (takeFrame f s) :=
  ((serve_served f s).allowed.trans (withLink_allowed _ _)).trans (pump_allowed _)

theorem takeFrames_allowed (n : Nat) (s : State) : AllowedKept s (takeFrames n s) := by
  induction n generalizing s with
  | zero => exact .refl s
  | succ n ih =>
    unfold takeFrames
    split
    · exact .refl s
    · split
      · exact ((withLink_allowed s _).trans (takeFrame_allowed _ _)).trans (ih _)
      · exact .refl s

theorem acceptFrame_allowed (f : Frame) : AllowedKept s (acceptFrame f s) := by
  unfold acceptFrame
  split
  · exact (withLink_allowed s _).trans (takeFrames_allowed _ _)
  · exact (placeOrDrop_allowed s _).trans (pump_allowed _)

theorem requestArrives_allowed (f : Frame) : AllowedKept s (requestArrives f s) := by
  unfold requestArrives
  split
  · exact .refl s
  · exact acceptFrame_allowed s f

theorem rejectBadCrc_allowed (f : Frame) : AllowedKept s (rejectBadCrc f s) := by
  refine (withLink_allowed s s.link.countError).trans ?_
  unfold rejectBadCrc
  dsimp only
  split
  · exact (withLink_allowed (countLinkError s) _).trans (pump_allowed _)
  · exact .refl _

theorem judge_allowed (f : Frame) (crc : Byte) : AllowedKept s (judge f crc s) := by
  unfold judge
  split
  · exact .refl s
  · split
    · exact rejectBadCrc_allowed s f
    · split
      · exact (placeOrDrop_allowed s _).trans (pump_allowed _)
      · exact acceptFrame_allowed s f

theorem judgeComplete_allowed : AllowedKept s (judgeComplete s) := by
  unfold judgeComplete
  split
  · exact (withLink_allowed s _).trans (judge_allowed (huntAgain s) _ _)
  · exact .refl s

theorem dropIfReceiving_allowed : AllowedKept s (dropIfReceiving s) := by
  unfold dropIfReceiving
  split <;> exact .of_eq rfl rfl

theorem receiveByte_allowed (b : Byte) : AllowedKept s (receiveByte b s) := by
  unfold receiveByte
  split
  case h_1 => split <;> exact .of_eq rfl rfl
  case h_2 => split <;> exact .of_eq rfl rfl
  all_goals exact .of_eq rfl rfl

theorem takeCharacter_allowed (b : Byte) (stopHigh : Bool) : AllowedKept s (takeCharacter b stopHigh s) := by
  unfold takeCharacter
  split
  · exact .refl s
  · split
    · exact (judgeComplete_allowed s).trans (receiveByte_allowed _ b)
    · exact ((judgeComplete_allowed s).trans (dropIfReceiving_allowed _)).trans (withLink_allowed _ _)

theorem lowLevelTimeout_allowed : AllowedKept s (lowLevelTimeout s) :=
  (dropIfReceiving_allowed s).trans (.of_eq rfl rfl)

/-! ### Restarts (R113, R122, R148, R178) -/

/-- A warm restart keeps the lane reserves. -/
theorem warmRestart_allowed (c : ModeCause) : AllowedKept s (warmRestart c s) := fun ⟨_, ⟨reserveA, reserveB, _⟩, _⟩ =>
  .of_standby rfl rfl rfl rfl reserveA reserveB

/-- After a cold start the planner and the mode are as at reset. -/
theorem ModeAllows.of_cold {t : State} (mode : t.control.mode = .standby) (planner : t.planner = Planner.cold) :
    ModeAllows t := by
  refine .of_standby mode ?_ ?_ ?_ ?_ ?_
  all_goals rw [planner]
  all_goals decide

theorem coldRestart_allowed (c : ModeCause) : AllowedKept s (coldRestart c s) := fun _ => .of_cold rfl rfl

theorem enterReset_allowed (why : ResetHold) : AllowedKept s (enterReset why s) := fun _ => .of_cold rfl rfl

theorem leaveReset_allowed (rxd txon : Bool) : AllowedKept s (leaveReset rxd txon s) := by
  unfold leaveReset
  split <;> exact .of_eq rfl rfl

theorem markedRestart_allowed (kind : RestartKind) : AllowedKept s (markedRestart kind s) := by
  cases kind with
  | warm => exact warmRestart_allowed s _
  | cold => exact coldRestart_allowed s _

theorem breakRestart_allowed : AllowedKept s (breakRestart s) := by
  have marked : AllowedKept s (markBreakTaken s) := withLink_allowed s _
  unfold breakRestart
  split
  · exact marked.trans (coldRestart_allowed _ _)
  · exact marked.trans (warmRestart_allowed _ _)
  · exact marked.trans (warmRestart_allowed _ _)

theorem frameSent_allowed : AllowedKept s (frameSent s) := by
  unfold frameSent
  split
  · exact (markedRestart_allowed s _).trans (pump_allowed _)
  · exact ((withLink_allowed s _).trans (pump_allowed (freeTransmitter s))).trans (takeFrames_allowed _ _)

/-! ### Events of the blocks -/

theorem settle_allowed : AllowedKept s (settle s) := (reform_allowed s).trans (pump_allowed _)

theorem noticed_allowed {f : State → Noticed} (kept : AllowedKept s (f s).1) : AllowedKept s (noticed f s) :=
  kept.trans (planChangeIf_allowed _ _)

/-- The template's anchor moves with the template present (R105). -/
theorem advanceTemplate_allowed : AllowedKept s (s.withTemplate (s.planner.template.map Template.advanced)) :=
  withTemplate_allowed fun _ present => by rw [Option.isSome_map]; exact present

end

/-! ### Every command, and the idle step -/

/-- A command taken only out of reset whose effect keeps what the mode allows. -/
theorem outOfReset_allowed {f : State → State} (h : ∀ s, AllowedKept s (f s)) (s : State) :
    ∃ t, outOfReset f s = .next t ∧ AllowedKept s t := outOfReset_answers AllowedKept.refl h s

/-- An effect taken when it is due. -/
theorem due_allowed {f : State → State} (h : ∀ s, AllowedKept s (f s)) (due : State → Bool) (s : State) :
    ∃ t, outOfReset (whenDue due f) s = .next t ∧ AllowedKept s t :=
  outOfReset_allowed (whenDue_rel AllowedKept.refl h due) s

/-- An event after which the lines are re-formed and the transmitter is offered what waits. -/
theorem event_allowed {f : State → State} (h : ∀ s, AllowedKept s (f s)) (due : State → Bool) (s : State) :
    ∃ t, event due f s = .next t ∧ AllowedKept s t :=
  due_allowed (fun s => (h s).trans (settle_allowed _)) due s

/-- An effect after which the transmitter is offered what waits (R189). -/
theorem pumped_allowed {f : State → State} (h : ∀ s, AllowedKept s (f s)) (s : State) : AllowedKept s (pump (f s)) :=
  (h s).trans (pump_allowed _)

/-- Every command answers a state that is as its mode allows where the state before was. -/
theorem exec_allowed (c : Instr) (s : State) : ∃ t, exec c s = .next t ∧ AllowedKept s t := by
  cases hc : requestOf c with
  | some f =>
    obtain ⟨k, ticket, payload, _, arrives⟩ := requestOf_arrival hc
    rw [arrives]
    exact outOfReset_allowed (requestArrives_allowed · _) s
  | none =>
    cases c
    case resetNLow => exact ⟨_, rfl, enterReset_allowed s _⟩
    case powerUp => exact ⟨_, rfl, enterReset_allowed s _⟩
    case leaveReset rxd txon =>
      refine ⟨_, rfl, ?_⟩
      split
      · exact pumped_allowed (leaveReset_allowed · rxd txon) s
      · exact .refl s
    case characterReceived b stopHigh => exact outOfReset_allowed (takeCharacter_allowed · b stopHigh) s
    case frameComplete => exact outOfReset_allowed judgeComplete_allowed s
    case frameTimeout => exact due_allowed (f := dropFrame) (fun s => .of_eq rfl rfl) _ s
    case rxdLowTimeout => exact due_allowed lowLevelTimeout_allowed _ s
    case rxdBreak => exact due_allowed (pumped_allowed breakRestart_allowed) _ s
    case frameTransmitted => exact due_allowed frameSent_allowed _ s
    case rxdReturnsHigh => exact outOfReset_allowed (fun s => withLink_allowed s _) s
    case txonRise => exact outOfReset_allowed (fun s => (startBlanking_allowed s).trans (settle_allowed _)) s
    case txonFall => exact outOfReset_allowed startTail_allowed s
    case blankingEnd => exact due_allowed endBlanking_allowed _ s
    case settlingEnd => exact due_allowed (fun s => by rw [endSettling_eq]; exact .of_eq rfl rfl) _ s
    case energyReading level preamble => exact event_allowed (takeReading_allowed level preamble) _ s
    case longBurstCut => exact event_allowed cutLongBurst_allowed _ s
    case gapEndRelease => exact event_allowed releaseAndSweep_allowed _ s
    case spanLimitRelease => exact event_allowed releaseAndSweep_allowed _ s
    case scoreDrain => exact due_allowed (f := drainScore) (fun s => .of_eq rfl rfl) _ s
    case dwellEnd => exact event_allowed endDwell_allowed _ s
    case observedSinceAdvance => exact due_allowed (fun s => withSense_allowed s _) _ s
    case riseTest id => exact event_allowed (fun s => noticed_allowed s (decideRise_allowed id s)) _ s
    case candidateExpiry id => exact event_allowed (fun s => freeTracker_allowed id s .age) _ s
    case trackerAgeLimit id => exact event_allowed (fun s => noticed_allowed s (ageTracker_allowed id s)) _ s
    case dormantAgeLimit id => exact event_allowed (fun s => noticed_allowed s (ageDormant_allowed id s)) _ s
    case guardStep id => exact due_allowed reform_allowed _ s
    case windowEdge => exact outOfReset_allowed reform_allowed s
    case templateAnchorAdvance => exact due_allowed advanceTemplate_allowed _ s
    case commitPoint => exact due_allowed (pumped_allowed takeCommitPoint_allowed) _ s
    case windowStart => exact event_allowed takeWindowStart_allowed _ s
    case windowEnd => exact event_allowed takeWindowEnd_allowed _ s
    case seriesRetry => exact due_allowed (pumped_allowed takeRetry_allowed) _ s
    case armTemplate t m => cases m <;> cases hc
    all_goals cases hc

theorem idle_allowed (s : State) : AllowedKept s (idle s) := by
  unfold idle
  split
  · exact .refl s
  · split <;> exact .of_eq rfl rfl

end Sys2Proof.Machine

section
open Sys2Proof Sys2Proof.Machine

/-- Settles O59: by the command at the front of the queue, or the idle step. -/
theorem stepKeepsWhatTheModeAllows : Obligations.StepKeepsWhatTheModeAllows := by
  intro s t bookings admitted lines stepped
  have before : ModeAllows s := ⟨bookings, admitted, lines⟩
  unfold step at stepped
  split at stepped
  · rename_i c cs _
    obtain ⟨u, answers, kept⟩ := exec_allowed c (s.withPending cs)
    obtain rfl : u = t := by rw [answers] at stepped; exact Host.Outcome.next.inj stepped
    exact kept before
  · obtain rfl := Host.Outcome.next.inj stepped
    exact idle_allowed s before
end

end

section
/-! PROOFS. SET_MODE and RESUME between two running modes. -/

namespace Sys2Proof.Machine

/-! ### The requests that change the mode (R169, R171) -/

/-- The code of a running mode names it (Table 9-2). -/
theorem modeArgument_code {m : Mode} (h : m ≠ .standby) : modeArgument m.code = some m := by
  cases m with
  | standby => exact absurd rfl h
  | observe => rfl
  | active => rfl
  | fallback => rfl
  | hold => rfl

section
variable {s : State} {new : Mode} (running : s.control.mode ≠ .standby) (other : s.control.mode ≠ new)
include running other

/-- SET_MODE to another running mode: FALLBACK from ACTIVE alone, and with a template (R169). -/
theorem requestSetMode_taken (target : new ≠ .standby)
    (fallback : new = .fallback → s.control.mode = .active ∧ s.planner.template.isSome = true) :
    requestSetMode new.code s = changeByRequest new s := by
  simp only [requestSetMode, modeArgument_code target, if_neg running, if_neg other]
  split
  · rename_i same
    subst same
    obtain ⟨active, present⟩ := fallback rfl
    obtain ⟨t, present⟩ := Option.isSome_iff_exists.1 present
    simp only [toFallback, active, present, reduceCtorEq, or_self, if_false, Option.isNone_some, Bool.false_eq_true]
  · rfl

end

/-- RESUME from FALLBACK or HOLD (R171). -/
theorem requestResume_taken {s : State} (running : s.control.mode ≠ .standby) (other : s.control.mode ≠ .active)
    (not_observe : s.control.mode ≠ .observe) : requestResume s = changeByRequest .active s := by
  unfold requestResume
  cases mode : s.control.mode with
  | standby => exact absurd mode running
  | observe => exact absurd mode not_observe
  | active => exact absurd mode other
  | fallback => rfl
  | hold => rfl

/-! ### What a change of mode does, by the pair of modes (R145, R146, R170) -/

section
variable {m : Mode} {s : State} (other : s.control.mode ≠ m)
include other

theorem changeMode_suspends (old : s.control.mode.steers = true) (new : m.steers = false) :
    changeMode m s = suspendBookings (reform (s.setMode m)) := by
  simp only [changeMode, if_neg other, old, new, Bool.not_false, Bool.and_self, if_true]

theorem changeMode_resumes (old : s.control.mode.steers = false) (new : m.steers = true) :
    changeMode m s = resumeBookings (reform (s.setMode m)) := by
  simp only [changeMode, if_neg other, old, new, Bool.false_and, Bool.not_false, Bool.and_self, Bool.false_eq_true,
    if_true, if_false]

theorem changeMode_replans (old : s.control.mode.steers = true) (new : m.steers = true) :
    changeMode m s = planChange (reform (s.setMode m)) := by
  simp only [changeMode, if_neg other, old, new, Bool.not_true, Bool.and_false, Bool.false_and, Bool.and_self,
    Bool.false_eq_true, if_true, if_false]

theorem changeMode_alone (old : s.control.mode.steers = false) (new : m.steers = false) :
    changeMode m s = reform (s.setMode m) := by
  simp only [changeMode, if_neg other, old, new, Bool.false_and, Bool.and_false, Bool.false_eq_true, if_false]

end

/-- The SUSPENDED series become RUNNING and are rebased in order of id (R146). -/
theorem resumeBookings_eq (s : State) :
    resumeBookings s =
      ([0, 1, 2, 3].filter (fun id => decide (∃ x ∈ s.planner.series, x.state = .suspended ∧ x.id = id))).foldl
        (fun v id => rebase id .resume v)
        (s.withPlanner { s.planner with series := s.planner.series.map (fun x => { x with state := .running }) }) := by
  have suspended :
      (fun i => ((s.planner.series.filter (fun x => decide (x.state = .suspended))).map Series.id).contains i)
        = fun id => decide (∃ x ∈ s.planner.series, x.state = .suspended ∧ x.id = id) := by
    funext id
    rw [Bool.eq_iff_iff]
    simp only [List.contains_iff_mem, List.mem_map, List.mem_filter, decide_eq_true_eq, and_assoc]
  unfold resumeBookings
  dsimp only
  rw [suspended]
  rfl

/-- The reply of a change is counted from what the instant had counted before it (R173). -/
theorem changeMode_modeReplies (m : Mode) (s : State) : (changeMode m s).control.modeReplies = s.control.modeReplies := by
  rw [(changeMode_plannerStep m s).control]
  rfl

theorem formedCode_hold {s : State} (h : s.control.mode = .hold) : formedCode s = .shut := by
  rw [formedCode, h]

end Sys2Proof.Machine

section
open Sys2Proof Sys2Proof.Machine

/-- Settles O17: both requests come to one change of mode, which goes by what the two modes steer. -/
theorem modeChangesAmongRunningModes : Obligations.ModeChangesAmongRunningModes := by
  intro t new c kind s ready running target other fallback request changed shown answer hchanged hshown hanswer
  have shown_eq : shown = reform (s.setMode new) := by rw [hshown, hchanged]; rfl
  have mode_shown : shown.control.mode = new := by rw [shown_eq]; rfl
  have taken : exec c s = answer (changeMode new s) := by
    rw [hanswer, ← changeMode_modeReplies new s]
    rcases request with ⟨rfl, rfl⟩ | ⟨rfl, rfl, rfl, not_observe⟩
    · rw [setMode_served ready, requestSetMode_taken running other target fallback]
      rfl
    · rw [resume_served ready, requestResume_taken running other not_observe]
      rfl
  refine ⟨fun old quiet => ?_, fun old steers ids hids => ?_, fun old steers => ?_, fun old quiet => ?_,
    fun hold => formedCode_hold (mode_shown.trans hold), fun observe => formedCode_idle (.inr (mode_shown.trans observe))⟩
  · rw [taken, changeMode_suspends other old quiet, suspendBookings_eq, shown_eq]
    rfl
  · rw [taken, changeMode_resumes other old steers, resumeBookings_eq, hids, shown_eq]
    rfl
  · rw [taken, changeMode_replans other old steers, shown_eq]
  · rw [taken, changeMode_alone other old quiet, shown_eq]
end

end

section
/-! PROOFS. SET_RULES, READ_RULES, ARM_TEMPLATE and DROP_TEMPLATE. -/

namespace Sys2Proof.Machine

/-! ### The bytes of a rule (Table 6-2, R114) -/

/-- A byte above a bound is none of the bytes up to it. -/
theorem byte_ne_of_lt {b c : Byte} {n : Nat} (above : n < b.toNat) (within : c.toNat ≤ n) : b ≠ c := by
  rintro rfl
  exact Nat.not_le.2 above within

theorem Predicate.ofByte_beyond {b : Byte} (h : 5 < b.toNat) : Predicate.ofByte b = none := by
  have ne (c : Byte) (within : c.toNat ≤ 5) : b ≠ c := byte_ne_of_lt h within
  simp only [Predicate.ofByte, ne 0 (by decide), ne 1 (by decide), ne 2 (by decide), ne 3 (by decide), ne 4 (by decide),
    ne 5 (by decide), if_false]

theorem boolOfByte_beyond {b : Byte} (h : 1 < b.toNat) : boolOfByte b = none := by
  have ne (c : Byte) (within : c.toNat ≤ 1) : b ≠ c := byte_ne_of_lt h within
  simp only [boolOfByte, ne 0 (by decide), ne 1 (by decide), if_false]

theorem Action.ofByte_beyond {b : Byte} (h : 1 < b.toNat) : Action.ofByte b = none := by
  have ne (c : Byte) (within : c.toNat ≤ 1) : b ≠ c := byte_ne_of_lt h within
  simp only [Action.ofByte, ne 0 (by decide), ne 1 (by decide), if_false]

theorem Predicate.ofByte_code (p : Predicate) : Predicate.ofByte p.code = some p := by
  cases p <;> rfl

theorem Action.ofByte_code (a : Action) : Action.ofByte a.code = some a := by
  cases a <;> rfl

theorem boolOfByte_flag (b : Bool) : boolOfByte (if b then 1 else 0) = some b := by
  cases b <;> rfl

/-- The three bytes that stand for a rule (R114). -/
def Rule.encoded (r : Rule) : RuleBytes :=
  { predicate := r.predicate.code, invert := if r.invert then 1 else 0, action := r.action.code }

theorem Rule.ofBytes_encoded (r : Rule) : Rule.ofBytes r.encoded = some r := by
  simp only [Rule.ofBytes, Rule.encoded, Predicate.ofByte_code, boolOfByte_flag, Action.ofByte_code]

/-- A rule with a byte outside its codes is malformed. -/
theorem Rule.ofBytes_beyond {b : RuleBytes} (h : 5 < b.predicate.toNat ∨ 1 < b.invert.toNat ∨ 1 < b.action.toNat) :
    Rule.ofBytes b = none := by
  unfold Rule.ofBytes
  split
  · rename_i predicate invert action
    rcases h with h | h | h
    · rw [Predicate.ofByte_beyond h] at predicate; cases predicate
    · rw [boolOfByte_beyond h] at invert; cases invert
    · rw [Action.ofByte_beyond h] at action; cases action
  · rfl

theorem rulesOf_encoded (rs : List Rule) : rulesOf (rs.map Rule.encoded) = some rs := by
  induction rs with
  | nil => rfl
  | cons r rs ih => simp only [List.map_cons, rulesOf, Rule.ofBytes_encoded, ih]

/-- One malformed rule spoils the list. -/
theorem rulesOf_malformed {bs : List RuleBytes} {b : RuleBytes} (mem : b ∈ bs) (h : Rule.ofBytes b = none) :
    rulesOf bs = none := by
  induction bs with
  | nil => cases mem
  | cons c bs ih =>
    unfold rulesOf
    rcases List.mem_cons.1 mem with rfl | mem
    · rw [h]
    · rw [ih mem]
      cases Rule.ofBytes c <;> rfl

/-! ### SET_RULES (R114) -/

/-- No rule, more than eight, or a byte outside its codes is refused. -/
theorem requestSetRules_refused {bs : List RuleBytes} (th : Half) (s : State)
    (h : bs.length = 0 ∨ 8 < bs.length ∨
      ∃ b ∈ bs, 5 < b.predicate.toNat ∨ 1 < b.invert.toNat ∨ 1 < b.action.toNat) :
    requestSetRules bs th s = refuse stBadArg s := by
  unfold requestSetRules
  split
  · rfl
  · rename_i count
    obtain ⟨b, mem, bad⟩ := (or_assoc.2 h).resolve_left count
    rw [rulesOf_malformed mem (Rule.ofBytes_beyond bad)]

/-- One to eight rules replace the list, and the clamped threshold the old one. -/
theorem requestSetRules_taken {rules : List Rule} (th : Half) (s : State) (one : 1 ≤ rules.length)
    (eight : rules.length ≤ 8) :
    requestSetRules (rules.map Rule.encoded) th s =
      (reform (planChange (replaceRules rules (min 1000 th.toNat) s)),
        (if min 1000 th.toNat = th.toNat then 0x00 else 0x01) :: le16n (min 1000 th.toNat)) := by
  have count : ¬ (rules.length = 0 ∨ 8 < rules.length) := by omega
  simp only [requestSetRules, List.length_map, if_neg count, rulesOf_encoded]
  rw [clampNat_eq _ _ _ (by decide), Nat.zero_max, okOrClamped_not]

/-! ### ARM_TEMPLATE (R119) -/

/-- The source is searched for as the entry of greatest age is, with the hits in its place. -/
theorem templateSource_eq_oldest (s : State) (ids : List Nat) :
    templateSource s ids =
      oldest (fun id => decide ((s.tracker id).kind = .oven ∧ (s.tracker id).state = .locked)
        && (s.tracker id).coversO s.dwells.operating) (fun id => (s.tracker id).hits) ids := by
  induction ids with
  | nil => rfl
  | cons id ids ih => cases source : templateSource s ids <;> simp only [templateSource, oldest, ← ih, source]

/-- An entry that a template may be copied from: a LOCKED OVEN entry covering O (R119). -/
theorem templateSource_test_iff (s : State) (id : Nat) :
    (decide ((s.tracker id).kind = .oven ∧ (s.tracker id).state = .locked)
        && (s.tracker id).coversO s.dwells.operating) = true ↔
      (s.tracker id).kind = .oven ∧ (s.tracker id).state = .locked ∧
        ∃ o, s.dwells.operating = some o ∧ ∃ d ∈ (s.tracker id).span, d ≤ o + 3 ∧ o ≤ d + 3 := by
  rw [Bool.and_eq_true, decide_eq_true_eq, Tracker.coversO_iff, and_assoc]

/-- The length of window 0, with the rounding of its two edges (R7, R119). -/
theorem Template.windowLength_eq (t : Template) :
    t.windowLength =
      ((t.anchor.toNat + 15) / 16 - t.anchor.toNat / 16) + t.onDuration + 2 * (t.ovenGuard + t.margin) := by
  have rounding : (if t.anchor.toNat % 16 = 0 then 0 else 1) = (t.anchor.toNat + 15) / 16 - t.anchor.toNat / 16 := by
    split <;> omega
  rw [Template.windowLength, rounding]

theorem marginApplied_eq (f : Option Half) :
    marginApplied f = f.elim 500 (fun m => min 2000 (timeCodeValue m)) := by
  cases f with
  | none => rfl
  | some f => exact (clampNat_eq _ _ _ (by decide)).trans (Nat.zero_max _)

/-- The status of the reply: OK when the margin was left out or applied as it stood. -/
theorem okOrClamped_margin (f : Option Half) :
    okOrClamped (marginClamped f) = if f = none ∨ f.map timeCodeValue = some (marginApplied f) then 0x00 else 0x01 := by
  cases f with
  | none => rfl
  | some f =>
    simp only [marginClamped, marginApplied, okOrClamped_not, reduceCtorEq, false_or, Option.map_some, Option.some.injEq,
      eq_comm (a := timeCodeValue f)]

theorem marginBad_iff (f : Option Half) : marginBad f = true ↔ ∃ m, f = some m ∧ m.getLsbD 15 = true := by
  cases f <;> simp [marginBad, timeCodeBad]

section
variable {f : Option Half} {s : State}

theorem requestArmTemplate_badMargin (h : marginBad f = true) : requestArmTemplate f s = refuse stBadArg s := by
  rw [requestArmTemplate, if_pos h]

variable (good : ¬ marginBad f = true)
include good

theorem requestArmTemplate_fallback (h : s.control.mode = .fallback) : requestArmTemplate f s = refuse stWrongMode s := by
  rw [requestArmTemplate, if_neg good, if_pos h]

variable (mode : s.control.mode ≠ .fallback)
include mode

theorem requestArmTemplate_noLock (h : templateSource s trackerIds = none) :
    requestArmTemplate f s = refuse stNoLock s := by
  rw [requestArmTemplate, if_neg good, if_neg mode, h]

theorem requestArmTemplate_taken {id : Nat} (h : templateSource s trackerIds = some id) :
    requestArmTemplate f s =
      (planChange (s.withTemplate
          (some (templateOf (s.tracker id) s.tracking.settings.guardBase (marginApplied f)))),
        okOrClamped (marginClamped f) :: byteOf id :: timeCodeField (marginApplied f) ++
          timeCodeField (templateOf (s.tracker id) s.tracking.settings.guardBase (marginApplied f)).windowLength) := by
  rw [requestArmTemplate, if_neg good, if_neg mode, h]
  rfl

end

end Sys2Proof.Machine

section
open Sys2Proof Sys2Proof.Machine

/-- Settles O27: a rule is read back from its bytes, and one byte outside its codes spoils the request. -/
theorem rulesReplacedAndRead : Obligations.RulesReplacedAndRead := by
  refine ⟨fun t count th s ready => ⟨fun bs => ⟨setRules_wrongLength ready t count bs th, fun agree bad => ?_⟩,
    fun rules agree one eight n hn => ?_⟩, fun t s ready => readRules_served ready t⟩
  · rw [setRules_served ready t count bs th agree, requestSetRules_refused th s bad]
    rfl
  · show exec (.setRules t count (rules.map Rule.encoded) th) s = _
    rw [setRules_served ready t count _ th (agree.trans (List.length_map _).symm),
      requestSetRules_taken th s one eight, hn]
    rfl

/-- Settles O28: by the checks in their order, and the search for the entry of highest hits. -/
theorem templateArmedAndDropped : Obligations.TemplateArmedAndDropped := by
  intro t margin s ready
  have good (h : ∀ m, margin = some m → m.getLsbD 15 = false) : ¬ marginBad margin = true := fun bad => by
    obtain ⟨m, present, bit⟩ := (marginBad_iff margin).1 bad
    rw [h m present] at bit
    cases bit
  refine ⟨fun bad => ?_, fun h fallback => ?_, fun fallback => ?_, fun mode => ⟨fun absent => ?_, fun present => ?_,
    fun h source hsource => ⟨fun nobody => ?_, fun id mine first x m hx hm => ?_⟩⟩⟩
  · rw [armTemplate_served ready, requestArmTemplate_badMargin ((marginBad_iff margin).2 bad)]
    rfl
  · rw [armTemplate_served ready, requestArmTemplate_fallback (good h) fallback]
    rfl
  · rw [dropTemplate_served ready, requestDropTemplate, if_pos fallback]
    rfl
  · rw [dropTemplate_served ready, requestDropTemplate, if_neg mode, absent]
    rfl
  · rw [dropTemplate_served ready, requestDropTemplate, if_neg mode,
      if_neg (by simpa [Option.isNone_iff_eq_none] using present)]
    rfl
  all_goals
    have source_iff (j : Nat) := (hsource j).trans (and_congr_right' (templateSource_test_iff s j).symm)
  · have none_found : templateSource s trackerIds = none := by
      rw [templateSource_eq_oldest, oldest_eq_none]
      exact fun j mem => Bool.eq_false_iff.2 fun passes => nobody j ((source_iff j).2 ⟨mem_trackerIds.1 mem, passes⟩)
    rw [armTemplate_served ready, requestArmTemplate_noLock (good h) mode none_found]
    rfl
  · obtain ⟨bound, passes⟩ := (source_iff id).1 mine
    have found : templateSource s trackerIds = some id := by
      rw [templateSource_eq_oldest, oldest_eq_some trackerIds_rising]
      exact ⟨mem_trackerIds.2 bound, passes, fun j mem passes =>
        first j ((source_iff j).2 ⟨mem_trackerIds.1 mem, passes⟩)⟩
    have applied : m = marginApplied margin := by
      rw [hm, marginApplied_eq]
      cases margin <;> rfl
    rw [armTemplate_served ready, requestArmTemplate_taken (good h) mode found, okOrClamped_margin,
      Template.windowLength_eq, applied, hx]
    rfl
end

end

section
/-! PROOFS. The placement search and the longest base-OPEN run. -/

namespace Sys2Proof.Machine

/-! ### The breaks of an interval -/

theorem mem_insertBreak {x y : Int} {l : List Int} : y ∈ insertBreak x l ↔ y = x ∨ y ∈ l := by
  induction l with
  | nil => exact List.mem_singleton.trans (by simp)
  | cons z l ih =>
    unfold insertBreak
    split
    · exact List.mem_cons
    · split
      · subst x
        simp
      · rw [List.mem_cons, ih, List.mem_cons, or_left_comm]

theorem insertBreak_rising (x : Int) {l : List Int} (rising : l.Pairwise (· < ·)) :
    (insertBreak x l).Pairwise (· < ·) := by
  induction l with
  | nil => exact List.pairwise_singleton _ x
  | cons z l ih =>
    obtain ⟨below, rising'⟩ := List.pairwise_cons.1 rising
    unfold insertBreak
    split
    · rename_i before
      exact List.pairwise_cons.2 ⟨List.forall_mem_cons.2 ⟨before, fun y mem => before.trans (below y mem)⟩, rising⟩
    · split
      · exact rising
      · refine List.pairwise_cons.2 ⟨fun y mem => ?_, ih rising'⟩
        rcases mem_insertBreak.1 mem with rfl | old
        · omega
        · exact below y old

/-- The breaks are the start of the interval and the edges inside it. -/
theorem mem_breaks {lo hi x : Int} {edges : List Int} :
    x ∈ breaks lo hi edges ↔ x = lo ∨ (x ∈ edges ∧ lo < x ∧ x < hi) := by
  have inserted (l : List Int) : x ∈ l.foldr insertBreak [lo] ↔ x ∈ l ∨ x = lo := by
    induction l with
    | nil => simp
    | cons y l ih => rw [List.foldr_cons, mem_insertBreak, ih, List.mem_cons, or_assoc]
  rw [breaks, inserted, List.mem_filter, decide_eq_true_eq, or_comm]

theorem breaks_rising (lo hi : Int) (edges : List Int) : (breaks lo hi edges).Pairwise (· < ·) := by
  unfold breaks
  induction edges.filter (fun e => decide (lo < e ∧ e < hi)) with
  | nil => exact List.pairwise_singleton _ lo
  | cons y l ih => exact insertBreak_rising y ih

/-- The first break is the start of the interval. -/
theorem breaks_head (lo hi : Int) (edges : List Int) : ∃ ps, breaks lo hi edges = lo :: ps := by
  have mem_lo : lo ∈ breaks lo hi edges := mem_breaks.2 (.inl rfl)
  have rising := breaks_rising lo hi edges
  have bounds {x : Int} (mem : x ∈ breaks lo hi edges) := mem_breaks.1 mem
  cases list : breaks lo hi edges with
  | nil => rw [list] at mem_lo; cases mem_lo
  | cons p ps =>
    rw [list] at mem_lo rising
    have above : p = lo ∨ lo < p := (bounds (list ▸ List.mem_cons_self)).imp_right fun inside => inside.2.1
    rcases List.mem_cons.1 mem_lo with rfl | later
    · exact ⟨ps, rfl⟩
    · have := (List.pairwise_cons.1 rising).1 lo later
      omega

/-! ### Functions of the instant that are constant between breaks (R112) -/

/-- A function is constant on every piece of an interval cut at these points: a piece ends where the next begins, and the
last at the limit. -/
def ConstantOnPieces {α : Type} (f : Int → α) (limit : Int) : List Int → Prop
  | [] => True
  | p :: ps =>
    p < ps.headD limit ∧ (∀ x, p ≤ x → x < ps.headD limit → f x = f p) ∧ ConstantOnPieces f limit ps

/-- Inside an interval a function takes a new value only at one of these edges. -/
def ChangesOnlyAt {α : Type} (f : Int → α) (lo hi : Int) (edges : List Int) : Prop :=
  ∀ p x, lo ≤ p → p ≤ x → x < hi → (∀ e ∈ edges, e ≤ p ∨ x < e) → f x = f p

section
variable {α : Type} {f : Int → α} {lo hi limit : Int}

theorem ConstantOnPieces.headD_le {ps : List Int} (pieces : ConstantOnPieces f limit ps) : ps.headD limit ≤ limit := by
  induction ps with
  | nil => exact le_refl limit
  | cons p ps ih => exact pieces.1.le.trans (ih pieces.2.2)

/-- A property of the values holds throughout when it holds at the first instant of every piece. -/
theorem ConstantOnPieces.forall_iff {ps : List Int} (pieces : ConstantOnPieces f limit ps) (v : α) :
    (∀ p ∈ ps, f p = v) ↔ ∀ x, ps.headD limit ≤ x → x < limit → f x = v := by
  induction ps with
  | nil => exact ⟨fun _ x low high => absurd high (not_lt.2 low), fun _ _ mem => nomatch mem⟩
  | cons p ps ih =>
    obtain ⟨nonempty, constant, rest⟩ := pieces
    rw [List.forall_mem_cons, ih rest]
    constructor
    · rintro ⟨first, later⟩ x low high
      rcases lt_or_ge x (ps.headD limit) with inside | beyond
      · exact (constant x low inside).trans first
      · exact later x beyond high
    · intro throughout
      exact ⟨throughout p le_rfl (nonempty.trans_le rest.headD_le),
        fun x low high => throughout x (nonempty.le.trans low) high⟩

/-- A function that changes only at edges is constant between the breaks that they make. -/
theorem breaks_constantOnPieces {edges : List Int} (nonempty : lo < hi) (changes : ChangesOnlyAt f lo hi edges) :
    ConstantOnPieces f hi (breaks lo hi edges) := by
  have suffix (ps : List Int) (rising : ps.Pairwise (· < ·)) (inside : ∀ p ∈ ps, lo ≤ p ∧ p < hi)
      (all : ∀ e ∈ edges, ps.headD hi ≤ e → e < hi → lo < e → e ∈ ps) : ConstantOnPieces f hi ps := by
    induction ps with
    | nil => trivial
    | cons p ps ih =>
      obtain ⟨below, rising⟩ := List.pairwise_cons.1 rising
      obtain ⟨⟨low, high⟩, inside⟩ := List.forall_mem_cons.1 inside
      have next : p < ps.headD hi ∧ ∀ y ∈ ps, ps.headD hi ≤ y := by
        cases ps with
        | nil => exact ⟨high, fun _ mem => nomatch mem⟩
        | cons q ps =>
          exact ⟨below q List.mem_cons_self, List.forall_mem_cons.2
            ⟨le_rfl, fun y mem => ((List.pairwise_cons.1 rising).1 y mem).le⟩⟩
      have later (e : Int) (edge : e ∈ edges) (after : p < e) (before : e < hi) : e ∈ ps :=
        (List.mem_cons.1 (all e edge after.le before (low.trans_lt after))).resolve_left after.ne'
      have most : ps.headD hi ≤ hi := by
        cases ps with
        | nil => exact le_rfl
        | cons q ps => exact (inside q List.mem_cons_self).2.le
      refine ⟨next.1, fun x at_p before => changes p x low at_p (before.trans_le most) fun e edge => ?_,
        ih rising inside fun e edge after before _ => later e edge (next.1.trans_le after) before⟩
      by_contra between
      obtain ⟨after, upto⟩ := not_or.1 between
      exact absurd (next.2 e (later e edge (by omega) (by omega))) (by omega)
  refine suffix _ (breaks_rising lo hi edges) (fun p mem => ?_) fun e edge _ before after =>
    mem_breaks.2 (.inr ⟨edge, after, before⟩)
  rcases mem_breaks.1 mem with rfl | ⟨_, after, before⟩
  · exact ⟨le_rfl, nonempty⟩
  · exact ⟨after.le, before⟩

end

/-! ### The search over the pieces (R127) -/

section
variable (clear : Int → Bool) (len : Nat)

/-- No clear window of this length begins at `d`. -/
def Blocked (d : Int) : Prop := ∃ x, d ≤ x ∧ x < d + len ∧ clear x = false

/-- The earliest start at or after `lo` of a clear window that ends at or before `limit`, or none where there is none. -/
def IsFirstFit (lo limit : Int) : Option Int → Prop
  | some d =>
    lo ≤ d ∧ d + len ≤ limit ∧ (∀ x, d ≤ x → x < d + len → clear x = true) ∧
      ∀ d', lo ≤ d' → d' < d → Blocked clear len d'
  | none => ∀ d, lo ≤ d → d + len ≤ limit → Blocked clear len d

end

/-- A run that starts at `lo` and reaches the pieces left, still too short: the first fit from `lo` on is what the search
over those pieces finds. -/
theorem firstFit_isFirstFit {clear : Int → Bool} {len : Nat} {limit lo : Int} {ps : List Int} {run : Option Int}
    (pieces : ConstantOnPieces clear limit ps) (start : run.getD (ps.headD limit) = lo) (reaches : lo ≤ ps.headD limit)
    (clear_run : ∀ x, lo ≤ x → x < ps.headD limit → clear x = true) (short : ps.headD limit < lo + len) :
    IsFirstFit clear len lo limit (firstFit clear len limit run ps) := by
  induction ps generalizing run lo with
  | nil => exact fun d after fits => absurd short (not_lt.2 (by simp only [List.headD_nil]; omega))
  | cons p ps ih =>
    obtain ⟨nonempty, constant, rest⟩ := pieces
    simp only [List.headD_cons] at start reaches clear_run short
    have limit_ge := rest.headD_le
    unfold firstFit
    rw [start]
    split
    · rename_i clear_p
      have longer (x : Int) (after : lo ≤ x) (before : x < ps.headD limit) : clear x = true := by
        rcases lt_or_ge x p with early | late
        · exact clear_run x after early
        · exact (constant x late before).trans clear_p
      split
      · exact ⟨le_rfl, by omega, fun x low high => longer x low (by omega), fun d low high => absurd low (not_le.2 high)⟩
      · exact ih rest rfl (by omega) longer (by omega)
    · rename_i shut_p
      have shut_p : clear p = false := Bool.eq_false_iff.2 shut_p
      have blocked (d : Int) (after : lo ≤ d) (before : d < ps.headD limit) : Blocked clear len d := by
        rcases le_or_gt d p with early | late
        · exact ⟨p, early, by omega, shut_p⟩
        · exact ⟨d, le_rfl, by omega, (constant d late.le before).trans shut_p⟩
      have found := ih (run := none) (lo := ps.headD limit) rest rfl le_rfl
        (fun x low high => absurd low (not_le.2 high)) (by omega)
      cases search : firstFit clear len limit none ps with
      | none =>
        rw [search] at found
        intro d after fits
        rcases lt_or_ge d (ps.headD limit) with early | late
        · exact blocked d after early
        · exact found d late fits
      | some d =>
        rw [search] at found
        obtain ⟨later, fits, window, earlier⟩ := found
        refine ⟨by omega, fits, window, fun d' after before => ?_⟩
        rcases lt_or_ge d' (ps.headD limit) with early | late
        · exact blocked d' after early
        · exact earlier d' late before

/-! ### The longest run over the pieces (R128) -/

section
variable {isOpen : Int → Bool} {limit lo : Int} {ps : List Int} {run : Option Int}
  (pieces : ConstantOnPieces isOpen limit ps) (start : run.getD (ps.headD limit) = lo) (reaches : lo ≤ ps.headD limit)
include pieces start reaches

/-- The measured run is attained. -/
theorem longestRun_attained (open_run : ∀ x, lo ≤ x → x < ps.headD limit → isOpen x = true) :
    ∃ a, lo ≤ a ∧ a + longestRun isOpen limit run ps ≤ limit ∧
      ∀ x, a ≤ x → x < a + longestRun isOpen limit run ps → isOpen x = true := by
  induction ps generalizing run lo with
  | nil => exact ⟨lo, le_rfl, by simpa [longestRun] using reaches, fun x low high =>
      absurd low (not_le.2 (by simpa [longestRun] using high))⟩
  | cons p ps ih =>
    obtain ⟨nonempty, constant, rest⟩ := pieces
    simp only [List.headD_cons] at start reaches open_run
    have limit_ge := rest.headD_le
    unfold longestRun
    rw [start]
    split
    · rename_i open_p
      have longer (x : Int) (after : lo ≤ x) (before : x < ps.headD limit) : isOpen x = true := by
        rcases lt_or_ge x p with early | late
        · exact open_run x after early
        · exact (constant x late before).trans open_p
      rcases max_choice (ps.headD limit - lo).toNat (longestRun isOpen limit (some lo) ps) with this_run | other
      · rw [this_run]
        exact ⟨lo, le_rfl, by omega, fun x low high => longer x low (by omega)⟩
      · rw [other]
        exact ih rest rfl (by omega) longer
    · obtain ⟨a, after, fits, window⟩ := ih (run := none) (lo := ps.headD limit) rest rfl le_rfl
        fun x low high => absurd low (not_le.2 high)
      exact ⟨a, by omega, fits, window⟩

/-- No open stretch is longer than the measured run, but for the run that reaches the pieces. -/
theorem longestRun_longest {a : Int} {n : Nat} (after : lo ≤ a) (fits : a + n ≤ limit)
    (stretch : ∀ x, a ≤ x → x < a + n → isOpen x = true) :
    (n : Int) ≤ max (longestRun isOpen limit run ps : Int) (ps.headD limit - lo) := by
  induction ps generalizing run lo with
  | nil => simp only [List.headD_nil]; omega
  | cons p ps ih =>
    obtain ⟨nonempty, constant, rest⟩ := pieces
    simp only [List.headD_cons] at start reaches ⊢
    unfold longestRun
    rw [start]
    split
    · have := ih (run := some lo) (lo := lo) rest rfl (by omega) after
      omega
    · rename_i shut_p
      rcases lt_or_ge a (ps.headD limit) with early | late
      · by_contra longer
        rcases le_or_gt a p with before | inside
        · exact shut_p (stretch p before (by omega))
        · exact shut_p ((constant a inside.le early).symm.trans (stretch a le_rfl (by omega)))
      · have := ih (run := none) (lo := ps.headD limit) rest rfl le_rfl late
        omega

end

/-! ### What changes only at the edges of windows and entries (R112, R126) -/

namespace Train
variable {w : Train} {now : Instant}

/-- A train without a period lists no window. -/
theorem indices_of_no_period (none : w.period = 0) (lo hi : Int) : w.indices now lo hi = [] := by
  simp [indices, indexLimit, firstIndex, floorDiv, none]

/-- A train starts or ceases to hold only at an edge of one of its windows. -/
theorem holds_changesOnlyAt (lo hi : Int) : ChangesOnlyAt (w.holds now) lo hi (w.edges now lo hi) := by
  intro p x low upto high quiet
  rcases Nat.eq_zero_or_pos w.period with none | positive
  · rw [holds, holds, indices_of_no_period none, indices_of_no_period none]
    rfl
  rw [Bool.eq_iff_iff, holds_iff now positive, holds_iff now positive]
  refine exists_congr fun k => ?_
  by_cases listed : k ∈ w.indices now lo hi
  · have first := quiet _ (List.mem_flatMap.2 ⟨k, listed, List.mem_cons_self⟩)
    have last := quiet _ (List.mem_flatMap.2 ⟨k, listed, List.mem_cons_of_mem _ List.mem_cons_self⟩)
    omega
  · rw [mem_indices_iff now k lo hi positive] at listed
    omega

end Train

section
variable {s : State} {p x : Int}

/-- A predicate is the same at two instants at which every train that it may read is. -/
theorem Predicate.holdsAt_congr (same : ∀ w ∈ predicateTrains s, w.holds s.airClock x = w.holds s.airClock p)
    (q : Predicate) : q.holdsAt s x = q.holdsAt s p := by
  have any_same {ws : List Train} (read : ws ⊆ predicateTrains s) :
      ws.any (fun w => w.holds s.airClock x) = ws.any (fun w => w.holds s.airClock p) := by
    rw [Bool.eq_iff_iff, List.any_eq_true, List.any_eq_true]
    exact exists_congr fun w => and_congr_right fun mem => by rw [same w (read mem)]
  unfold predicateTrains at any_same
  cases q with
  | ovenLocked => exact any_same fun w mem => List.mem_append_left _ (List.mem_append_left _ mem)
  | ovenAcq => exact any_same fun w mem => List.mem_append_left _ (List.mem_append_right _ mem)
  | beacon => exact any_same (List.subset_append_right _ _)
  | anyLock => rfl
  | loadHigh => rfl
  | always => rfl

theorem baseCode_congr (same : ∀ w ∈ predicateTrains s, w.holds s.airClock x = w.holds s.airClock p) :
    baseCode s x = baseCode s p := by
  unfold baseCode
  induction s.planner.rules with
  | nil => rfl
  | cons r rs ih => rw [baseAction, baseAction, ih, Rule.test, Rule.test, r.predicate.holdsAt_congr same]

end

/-- The base code changes only at window edges (R112). -/
theorem baseCode_changesOnlyAt (s : State) (lo hi : Int) : ChangesOnlyAt (baseCode s) lo hi (windowEdges s lo hi) :=
  fun p x low upto high quiet => baseCode_congr fun _ read =>
    Train.holds_changesOnlyAt lo hi p x low upto high fun e edge => quiet e (List.mem_flatMap.2 ⟨_, read, edge⟩)

/-- An instant becomes clear, or ceases to be, only at an edge of a window or of an entry (R126). -/
theorem clearAt_changesOnlyAt (s : State) (except : Option Instant) (lo hi : Int) :
    ChangesOnlyAt (clearAt s except) lo hi (windowEdges s lo hi ++ entryEdges s except) := by
  intro p x low upto high quiet
  have base : baseCode s x = baseCode s p := baseCode_changesOnlyAt s lo hi p x low upto high fun e edge =>
    quiet e (List.mem_append_left _ edge)
  have covers : ∀ e ∈ obstacles s except, e.coversAt s.airClock x = e.coversAt s.airClock p := by
    intro e mem
    have edge (b : Int) (its : b ∈ [e.startOffset s.airClock, e.endOffset s.airClock]) : b ≤ p ∨ x < b :=
      quiet b (List.mem_append_right _ (List.mem_flatMap.2 ⟨e, mem, its⟩))
    have first := edge _ List.mem_cons_self
    have last := edge _ (List.mem_cons_of_mem _ List.mem_cons_self)
    exact decide_eq_decide.2 (by omega)
  have covered : (obstacles s except).any (fun e => e.coversAt s.airClock x)
      = (obstacles s except).any (fun e => e.coversAt s.airClock p) := by
    rw [Bool.eq_iff_iff, List.any_eq_true, List.any_eq_true]
    exact exists_congr fun e => and_congr_right fun mem => by rw [covers e mem]
  rw [clearAt, clearAt, base, covered]

/-! ### The search and the measurement, as the planner asks for them -/

theorem clearBreaks_headD (s : State) (except : Option Instant) (lo hi : Int) :
    (clearBreaks s except lo hi).headD hi = lo := by
  obtain ⟨ps, cut⟩ := breaks_head lo hi (windowEdges s lo hi ++ entryEdges s except)
  rw [clearBreaks, cut, List.headD_cons]

/-- The placement search finds the first fit, or tells that there is none (R127). -/
theorem placementSearch_isFirstFit (s : State) (except : Option Instant) (lo limit : Int) {len : Nat}
    (some_length : 0 < len) : IsFirstFit (clearAt s except) len lo limit (placementSearch s except lo limit len) := by
  unfold placementSearch
  split
  · have head := clearBreaks_headD s except lo limit
    exact firstFit_isFirstFit (run := none)
      (breaks_constantOnPieces (by omega) (clearAt_changesOnlyAt s except lo limit)) head head.ge
      (fun x low high => absurd low (not_le.2 (head ▸ high))) (by rw [head]; omega)
  · exact fun d after fits => absurd fits (by omega)

/-- A stretch is clear when every instant of it is (R126). -/
theorem clearStretch_iff (s : State) (except : Option Instant) (lo : Int) {len : Nat} (some_length : 0 < len) :
    clearStretch s except lo len = true ↔ ∀ x, lo ≤ x → x < lo + len → clearAt s except x = true := by
  have pieces : ConstantOnPieces (clearAt s except) (lo + len) (clearBreaks s except lo (lo + len)) :=
    breaks_constantOnPieces (by omega) (clearAt_changesOnlyAt s except lo (lo + len))
  rw [clearStretch, List.all_eq_true, pieces.forall_iff, clearBreaks_headD]

/-- The pieces between window edges, each OPEN or not throughout. -/
theorem windowBreaks_constantOnPieces (s : State) {lo limit : Int} (nonempty : lo < limit) :
    ConstantOnPieces (fun x => decide (baseCode s x = .openAir)) limit (breaks lo limit (windowEdges s lo limit)) :=
  breaks_constantOnPieces nonempty fun p x low upto high quiet => by
    rw [baseCode_changesOnlyAt s lo limit p x low upto high quiet]

end Sys2Proof.Machine

section
open Sys2Proof Sys2Proof.Machine

/-- Settles O54: the search goes over pieces on which clearness is constant. -/
theorem placementSearchFindsTheEarliestClearWindow : Obligations.PlacementSearchFindsTheEarliestClearWindow := by
  intro s except lo limit len some_length
  have search := placementSearch_isFirstFit s except lo limit some_length
  refine ⟨fun d found => ?_, fun nothing => ?_, clearStretch_iff s except lo some_length⟩
  · rw [found] at search
    exact search
  · rw [nothing] at search
    exact search

/-- Settles O55: the pieces between window edges are joined to runs, and the longest is kept. -/
theorem longestOpenRunIsExact : Obligations.LongestOpenRunIsExact := by
  intro s lo limit ordered
  unfold longestOpenRun
  split
  · rename_i nonempty
    have pieces := windowBreaks_constantOnPieces s nonempty
    obtain ⟨ps, cut⟩ := breaks_head lo limit (windowEdges s lo limit)
    rw [cut] at pieces ⊢
    constructor
    · obtain ⟨a, after, fits, window⟩ := longestRun_attained (run := none) pieces rfl le_rfl
        fun x low high => absurd low (not_le.2 high)
      exact ⟨a, after, fits, fun x low high => of_decide_eq_true (window x low high)⟩
    · intro a n after fits stretch
      have := longestRun_longest (run := none) (lo := lo) pieces rfl le_rfl after fits
        fun x low high => decide_eq_true (stretch x low high)
      simp only [List.headD_cons] at this
      omega
  · exact ⟨⟨lo, le_rfl, by simpa using ordered, fun x low high => by omega⟩, fun a n after fits _ => by omega⟩
end

end

section
/-! PROOFS. Series: the occurrence tried next, skips and rebases, and the retry of a rebase. -/

namespace Sys2Proof.Machine

/-! ### The series table by id (R139) -/

theorem seriesIds_eq : seriesIds = List.range 4 := by decide

section
variable {s : State} {id : Nat} {x : Series}

theorem seriesById_id (found : s.seriesById id = some x) : x.id = id := by
  unfold State.seriesById at found
  exact of_decide_eq_true (List.find?_some found :)

/-- A change that keeps the id is what the id then names. -/
theorem updateSeries_seriesById (found : s.seriesById id = some x) {f : Series → Series} (same : ∀ y, (f y).id = y.id) :
    (s.updateSeries id f).seriesById id = some (f x) := by
  have ids (y : Series) : (if y.id = id then f y else y).id = y.id := by
    split
    · exact same y
    · rfl
  show (s.planner.series.map _).find? _ = _
  rw [List.find?_map]
  simp only [Function.comp_def, ids]
  rw [show s.planner.series.find? _ = some x from found, Option.map_some, if_pos (seriesById_id found)]

/-- Two changes of a series are one. -/
theorem updateSeries_updateSeries {f g : Series → Series} (same : ∀ y, (f y).id = y.id) :
    (s.updateSeries id f).updateSeries id g = s.updateSeries id (g ∘ f) := by
  have each (y : Series) : (if (if y.id = id then f y else y).id = id then g (if y.id = id then f y else y)
      else (if y.id = id then f y else y)) = if y.id = id then g (f y) else y := by
    by_cases own : y.id = id
    · rw [if_pos own, if_pos ((same y).trans own), if_pos own]
    · rw [if_neg own, if_neg own, if_neg own]
  simp only [State.updateSeries, State.withPlanner, List.map_map, Function.comp_def, each]

/-- A search that is made only where an entry is admitted finds nothing where it is not, or where there is no fit. -/
theorem search_fails {admits : Bool} {search : Option Int} (h : admits = false ∨ search = none) :
    (if admits = true then search else none) = none := by
  rcases h with rfl | rfl
  · rfl
  · exact ite_self none

/-! ### A rebase (R143) -/

variable (cause : RebaseCause)

theorem rebase_absent (absent : s.seriesById id = none) : rebase id cause s = s := by rw [rebase, absent]

theorem rebase_fits {d : Int} (found : s.seriesById id = some x) (admits : s.planner.admits x.lane = true)
    (fit : placementSearch s none 500 (500 + x.period + x.length) x.length = some d) :
    rebase id cause s =
      rebaseReport x (Instant.shift s.airClock d) cause
        (placeEntry (seriesEntry s x (Instant.shift s.airClock d)
            (Instant.plus (Instant.shift s.airClock d) (x.slide + x.length)))
          (s.updateSeries id (fun y =>
            { y with anchor := Instant.shift s.airClock d, index := 0, consecutiveSkips := 0, retry := none }))) := by
  simp only [rebase, found, admits, fit, if_true]
  rfl

theorem rebase_fails (found : s.seriesById id = some x)
    (fails : s.planner.admits x.lane = false ∨ placementSearch s none 500 (500 + x.period + x.length) x.length = none) :
    rebase id cause s = s.updateSeries id (fun y => { y with retry := some (Instant.plus s.airClock y.period) }) := by
  simp only [rebase, found, search_fails fails]

/-! ### The trial of one occurrence (R141) -/

theorem tryOccurrence_fits {d nominal : Int} (hn : nominal = Instant.offset s.airClock x.anchor + x.index * x.period)
    (admits : s.planner.admits x.lane = true)
    (fit : placementSearch s none (max nominal 500) (nominal + x.slide + x.length) x.length = some d) :
    tryOccurrence x s =
      some (placeEntry (seriesEntry s x (Instant.shift s.airClock d)
        (Instant.shift s.airClock (nominal + x.slide + x.length))) s) := by
  unfold tryOccurrence
  dsimp only
  rw [← hn, if_pos admits, fit]

theorem tryOccurrence_fails {nominal : Int} (hn : nominal = Instant.offset s.airClock x.anchor + x.index * x.period)
    (fails : s.planner.admits x.lane = false ∨
      placementSearch s none (max nominal 500) (nominal + x.slide + x.length) x.length = none) :
    tryOccurrence x s = none := by
  unfold tryOccurrence
  dsimp only
  rw [← hn, search_fails fails]

/-! ### Skips (R142) -/

/-- A skip counted, the index moved on by `n`. -/
def skipCounted (n id : Nat) (s : State) : State :=
  s.updateSeries id (fun y => { y with
    index := y.index + n, consecutiveSkips := y.consecutiveSkips + 1, totalSkips := min 65535 (y.totalSkips + 1) })

theorem countSkip_eq (id : Nat) (s : State) : countSkip id s = skipCounted 0 id s := rfl

theorem nextIndex_countSkip (id : Nat) (s : State) : nextIndex id (countSkip id s) = skipCounted 1 id s :=
  updateSeries_updateSeries fun _ => rfl

theorem skipCounted_seriesById (n : Nat) (found : s.seriesById id = some x) :
    ∃ y, (skipCounted n id s).seriesById id = some y ∧ y.consecutiveSkips = x.consecutiveSkips + 1 :=
  ⟨_, updateSeries_seriesById found fun _ => rfl, rfl⟩

theorem skipOccurrence_absent (absent : s.seriesById id = none) : skipOccurrence id s = s := by
  rw [skipOccurrence, absent]

theorem skipOccurrence_next (found : s.seriesById id = some x) (few : x.consecutiveSkips + 1 < 3) :
    skipOccurrence id s = tryOccurrences 3 id (skipCounted 1 id s) := by
  simp only [skipOccurrence, found, if_pos few, nextIndex_countSkip]

theorem skipOccurrence_rebases (found : s.seriesById id = some x) (third : 3 ≤ x.consecutiveSkips + 1) :
    skipOccurrence id s = rebase id .skips (skipCounted 0 id s) := by
  simp only [skipOccurrence, found, if_neg (Nat.not_lt.2 third), countSkip_eq]

/-! ### Occurrences tried one after another (R141, R142) -/

variable (n : Nat)

theorem tryOccurrences_placed {t : State} (found : s.seriesById id = some x) (placed : tryOccurrence x s = some t) :
    tryOccurrences (n + 1) id s = t := by
  simp only [tryOccurrences, found, placed]

theorem tryOccurrences_skips (found : s.seriesById id = some x) (skipped : tryOccurrence x s = none)
    (few : x.consecutiveSkips + 1 < 3) :
    tryOccurrences (n + 1) id s = tryOccurrences n id (skipCounted 1 id s) := by
  simp only [tryOccurrences, found, skipped, if_pos few, nextIndex_countSkip]

theorem tryOccurrences_rebases (found : s.seriesById id = some x) (skipped : tryOccurrence x s = none)
    (third : 3 ≤ x.consecutiveSkips + 1) :
    tryOccurrences (n + 1) id s = rebase id .skips (skipCounted 0 id s) := by
  simp only [tryOccurrences, found, skipped, if_neg (Nat.not_lt.2 third), countSkip_eq]

/-- Three skips running end the trials, so that no more than three are ever made. -/
theorem tryOccurrences_bound (found : s.seriesById id = some x) (enough : 2 ≤ n + x.consecutiveSkips) :
    tryOccurrences (n + 2) id s = tryOccurrences (n + 1) id s := by
  induction n generalizing s x with
  | zero =>
    cases trial : tryOccurrence x s with
    | some t => rw [tryOccurrences_placed _ found trial, tryOccurrences_placed _ found trial]
    | none => rw [tryOccurrences_rebases _ found trial (by omega), tryOccurrences_rebases _ found trial (by omega)]
  | succ n ih =>
    cases trial : tryOccurrence x s with
    | some t => rw [tryOccurrences_placed _ found trial, tryOccurrences_placed _ found trial]
    | none =>
      rcases Nat.lt_or_ge (x.consecutiveSkips + 1) 3 with few | third
      · obtain ⟨y, counted, skips⟩ := skipCounted_seriesById 1 found
        rw [tryOccurrences_skips _ found trial few, tryOccurrences_skips _ found trial few]
        exact ih counted (by omega)
      · rw [tryOccurrences_rebases _ found trial third, tryOccurrences_rebases _ found trial third]

/-- A trial that brings a skip is followed by the trial of the next index, or by a rebase. -/
theorem tryOccurrences_trial_fails (found : s.seriesById id = some x) (skipped : tryOccurrence x s = none)
    (few : x.consecutiveSkips + 1 < 3) :
    tryOccurrences 3 id s = tryOccurrences 3 id (skipCounted 1 id s) := by
  obtain ⟨y, counted, skips⟩ := skipCounted_seriesById 1 found
  rw [tryOccurrences_skips 2 found skipped few, tryOccurrences_bound 1 counted (by omega)]

/-! ### A series takes the opening of its occurrence (R141) -/

/-- A series whose occurrence has opened: its anchor at that occurrence's nominal instant, and its next index 1. -/
def Series.movedOn (x : Series) : Series :=
  { x with anchor := Instant.plus x.anchor (x.index * x.period), index := 1, consecutiveSkips := 0 }

theorem occurrenceOpened_eq (id : Nat) (s : State) :
    occurrenceOpened id s = tryOccurrences 3 id (s.updateSeries id Series.movedOn) := rfl

/-- The next occurrence is one period after the opened one. -/
theorem Series.movedOn_nominal (x : Series) (now : Instant) :
    Instant.offset now x.movedOn.anchor + x.movedOn.index * x.movedOn.period =
      Instant.offset now (Instant.plus x.anchor (x.index * x.period)) + x.period := by
  show _ + ((1 : Nat) : Int) * (x.period : Int) = _
  rw [Nat.cast_one, one_mul]
  rfl

theorem openEntry_oneShot {e : Reservation} {tag : Byte} (oneShot : e.origin = .oneShot tag) :
    openEntry e s = setEntryState e.start .opened s := by
  rw [openEntry, oneShot]

theorem openEntry_series {e : Reservation} (series : e.origin = .series id) :
    openEntry e s = occurrenceOpened id (setEntryState e.start .opened s) := by
  rw [openEntry, series]

end

/-! ### The events of windows and retries (R134, R135, R143) -/

section
variable {s : State} (run : Running s)
include run

theorem windowStart_taken {e : Reservation} (due : startDue s = some e) :
    exec .windowStart s = .next (pump (reform (openEntry e s))) := by
  have is_due : (startDue s).isSome = true := by rw [due]; rfl
  show execWindowStart s = _
  rw [execWindowStart, event_taken _ run is_due, takeWindowStart, due]

theorem windowEnd_taken {e : Reservation} (due : endDue s = some e) :
    exec .windowEnd s = .next (pump (reform (removeEntry e.start s))) := by
  have is_due : (endDue s).isSome = true := by rw [due]; rfl
  show execWindowEnd s = _
  rw [execWindowEnd, event_taken _ run is_due, takeWindowEnd, due]

theorem seriesRetry_taken {id : Nat} (due : retryDue s = some id) :
    exec .seriesRetry s = .next (pump (rebase id .retry s)) := by
  have is_due : (retryDue s).isSome = true := by rw [due]; rfl
  show execSeriesRetry s = _
  rw [execSeriesRetry, effect_taken _ run is_due, takeRetry, due]

end

theorem retryReached_iff {s : State} {id : Nat} :
    retryReached s id = true ↔ ∃ x r, s.seriesById id = some x ∧ x.retry = some r ∧ x.state = .running ∧
      Instant.atOrBefore r s.airClock = true := by
  unfold retryReached
  cases s.seriesById id with
  | none => simp
  | some x => cases retry : x.retry <;> simp [retry]

end Sys2Proof.Machine

section
open Sys2Proof Sys2Proof.Machine

/-- Settles O53: the lowest id whose retry is due is rebased, and a rebase goes by its one trial. -/
theorem seriesRetriesItsRebase : Obligations.SeriesRetriesItsRebase := by
  refine ⟨fun s id x retry run small found running held reached lower => ?retry, fun s id cause =>
    ⟨rebase_plannerStep id cause s, rebase_absent cause, fun x found =>
      ⟨fun d start admits fit hstart => ?fits, fun fails => ?fails⟩⟩⟩
  case retry =>
    have due : retryDue s = some id := by
      rw [retryDue, seriesIds_eq, List.find?_range_eq_some]
      refine ⟨retryReached_iff.2 ⟨x, retry, found, held, running, reached⟩, List.mem_range.2 small, fun j below => ?_⟩
      rw [Bool.not_eq_true', Bool.eq_false_iff]
      intro earlier
      obtain ⟨y, r, at_j, instant, runs, passed⟩ := retryReached_iff.1 earlier
      rw [lower j below y at_j runs r instant] at passed
      cases passed
    refine ⟨fun d start admits fit hstart => ?_, fun fails => ?_⟩
    · rw [seriesRetry_taken run due, rebase_fits .retry found admits fit, hstart]
      obtain rfl := seriesById_id found
      rfl
    · rw [seriesRetry_taken run due, rebase_fails .retry found fails]
      rfl
  case fits =>
    rw [rebase_fits cause found admits fit, hstart]
    obtain rfl := seriesById_id found
    cases cause <;> rfl
  case fails =>
    rw [rebase_fails cause found fails]
    rfl

/-- Settles O52: an opened occurrence moves its series on, and three skips running bound the trials that follow. -/
theorem windowsOpenAndEnd : Obligations.WindowsOpenAndEnd := by
  refine ⟨fun s e run =>
      ⟨fun due q hq => ⟨fun tag oneShot => ?oneShot, fun id x series found u nominal hu hn => ?series⟩, windowEnd_taken run⟩,
    fun s id x nominal found hn counted hcounted => ⟨fun d start admits fit hstart => ?fits, fun fails => ?skips⟩⟩
  case oneShot =>
    rw [windowStart_taken run due, openEntry_oneShot oneShot, hq]
    rfl
  case series =>
    have opened : openEntry e s = tryOccurrences 3 id u := by
      rw [openEntry_series series, occurrenceOpened_eq, hu, hq]
      rfl
    refine ⟨tryOccurrences 3 id u, ?_, tryOccurrences_plannerStep 3 id u, rfl, fun d start admits fit hstart => ?_⟩
    · rw [windowStart_taken run due, opened]
    · have moved : u.seriesById id = some x.movedOn := by
        rw [hu]
        exact updateSeries_seriesById (s := s.withQueue q) found fun _ => rfl
      have clock : u.airClock = s.airClock := by rw [hu]
      have hn' : nominal = Instant.offset u.airClock x.movedOn.anchor + x.movedOn.index * x.movedOn.period := by
        rw [hn, clock, Series.movedOn_nominal]
        rfl
      have placed := tryOccurrences_placed 2 moved (tryOccurrence_fits hn' admits fit)
      obtain rfl := seriesById_id found
      rw [placed, hstart, hu]
      rfl
  case fits =>
    rw [tryOccurrences_placed 2 found (tryOccurrence_fits hn admits fit), hstart]
    obtain rfl := seriesById_id found
    rfl
  case skips =>
    have skipped := tryOccurrence_fails hn fails
    rw [hcounted, hcounted]
    exact ⟨tryOccurrences_trial_fails found skipped, tryOccurrences_rebases 2 found skipped⟩
end

end

section
/-! PROOFS. The re-check of a PENDING entry, commit points and plan changes. -/

namespace Sys2Proof.Machine

/-! ### A re-check (R131, R133) -/

theorem recheck_absent {s : State} {start : Instant} (absent : pendingEntry s start = none) : recheck start s = s := by
  rw [recheck, absent]

section
variable {s : State} {e : Reservation} (pending : pendingEntry s e.start = some e)
include pending

theorem recheck_clear (clear : clearStretch s (some e.start) (e.startOffset s.airClock) e.length = true) :
    recheck e.start s = setEntryState e.start (stateByLead s.airClock e.start) s := by
  simp only [recheck, pending, clear, if_true]

variable (blocked : clearStretch s (some e.start) (e.startOffset s.airClock) e.length = false)
include blocked

/-- A later start within the deadline is taken, with a SHIFTED report. -/
theorem recheck_moved {d : Int} {moved : Reservation}
    (found : placementSearch s (some e.start) (e.startOffset s.airClock) (Instant.offset s.airClock e.deadline) e.length
      = some d)
    (hmoved : moved = { e with
      start := Instant.shift s.airClock d, state := stateByLead s.airClock (Instant.shift s.airClock d) }) :
    recheck e.start s = shiftedReport moved (placeEntry moved (removeEntry e.start s)) := by
  simp only [recheck, pending, blocked, found, Bool.false_eq_true, if_false, hmoved]

variable (nowhere :
  placementSearch s (some e.start) (e.startOffset s.airClock) (Instant.offset s.airClock e.deadline) e.length = none)
include nowhere

/-- With no such start the entry is removed, with a DISPLACED report. -/
theorem recheck_displaced {tag : Byte} (oneShot : e.origin = .oneShot tag) :
    recheck e.start s = displacedReport e .prediction (removeEntry e.start s) := by
  simp only [recheck, pending, blocked, nowhere, oneShot, Bool.false_eq_true, if_false]

/-- Its series takes the removal as a skip. -/
theorem recheck_skipped {id : Nat} (series : e.origin = .series id) :
    recheck e.start s = skipOccurrence id (displacedReport e .prediction (removeEntry e.start s)) := by
  simp only [recheck, pending, blocked, nowhere, series, Bool.false_eq_true, if_false]

end

/-! ### Commit points and plan changes (R131, R132) -/

/-- The entry at its commit point is the PENDING entry of its start: another of that start would have reached the point
with it, and stood before it in the queue. -/
theorem pendingEntry_of_commitDue {s : State} {e : Reservation} (due : commitDue s = some e) :
    pendingEntry s e.start = some e := by
  obtain ⟨reached, before, after, queue, none_before⟩ := List.find?_eq_some_iff_append.1 due
  obtain ⟨pending, lead⟩ := of_decide_eq_true reached
  refine List.find?_eq_some_iff_append.2
    ⟨decide_eq_true ⟨rfl, pending⟩, before, after, queue, fun y mem => ?_⟩
  rw [Bool.not_eq_true', decide_eq_false_iff_not]
  rintro ⟨same_start, also_pending⟩
  have not_reached := none_before y mem
  rw [Bool.not_eq_true', decide_eq_false_iff_not, Reservation.startOffset, same_start] at not_reached
  exact not_reached ⟨also_pending, lead⟩

theorem commitPoint_taken {s : State} {e : Reservation} (run : Running s) (due : commitDue s = some e) :
    exec .commitPoint s = .next (pump (recheck e.start s)) := by
  have is_due : (commitDue s).isSome = true := by rw [due]; rfl
  show execCommitPoint s = _
  rw [execCommitPoint, effect_taken _ run is_due, takeCommitPoint, due]

end Sys2Proof.Machine

section
open Sys2Proof Sys2Proof.Machine

/-- Settles O51: an entry is re-checked by its stretch, then by the search for a later start; the commit point and the
plan change choose which entries. -/
theorem commitPointRechecksTheEntry : Obligations.CommitPointRechecksTheEntry := by
  refine (and_iff_right_of_imp fun ⟨_, rechecked, _⟩ s e x run due hx => ?commit).2
    ⟨fun s => ⟨planChange_plannerStep s, rfl⟩, fun s start x hx => ⟨recheck_absent, fun e pending => ?recheck⟩,
      fun s id => ⟨skipOccurrence_absent, fun x found counted hcounted => ?skip⟩⟩
  case commit =>
    have due : commitDue s = some e := due
    obtain ⟨_, lead⟩ := of_decide_eq_true (List.find?_some due :)
    have lead : x ≤ 2000 := hx.trans_le lead
    obtain ⟨clear, blocked⟩ := (rechecked s e.start x hx).2 e (pendingEntry_of_commitDue due)
    rw [commitPoint_taken run due]
    refine ⟨rfl, fun free => ?_, fun taken => ⟨fun d start st found hstart hst => ?_, fun nowhere u hu =>
      ⟨fun tag oneShot => ?_, fun id series => ⟨?_, skipOccurrence_plannerStep id u⟩⟩⟩⟩
    · rw [clear free, if_pos lead]
    · rw [(blocked taken).1 d start st found hstart hst]
    · rw [((blocked taken).2 nowhere u hu).1 tag oneShot]
    · rw [((blocked taken).2 nowhere u hu).2 id series]
  case recheck =>
    obtain ⟨rfl, _⟩ := of_decide_eq_true (List.find?_some pending :)
    subst hx
    refine ⟨fun clear => ?_, fun blocked => ⟨fun d moved st found hmoved hst => ?_, fun nowhere u hu =>
      ⟨fun tag oneShot => ?_, fun id series => ?_⟩⟩⟩
    · rw [recheck_clear pending clear]
      rfl
    · rw [recheck_moved pending blocked found rfl, hst, hmoved]
      rfl
    · rw [recheck_displaced pending blocked nowhere oneShot, hu]
      rfl
    · rw [recheck_skipped pending blocked nowhere series, hu]
      rfl
  case skip =>
    rw [hcounted, hcounted]
    exact ⟨skipOccurrence_next found, skipOccurrence_rebases found⟩
end

end

section
/-! PROOFS. BOOK, CANCEL, SERIES_OPEN, SERIES_CLOSE, SET_LANES and READ_BOOKINGS. -/

namespace Sys2Proof.Machine

/-! ### The checks that BOOK and SERIES_OPEN share (R129, R140) -/

/-- The code of a lane names it (Table 7-1). -/
theorem Lane.ofByte_code (l : Lane) : Lane.ofByte l.code = some l := by
  cases l <;> rfl

theorem Lane.ofByte_beyond {b : Byte} (h : 1 < b.toNat) : Lane.ofByte b = none := by
  have ne (c : Byte) (within : c.toNat ≤ 1) : b ≠ c := byte_ne_of_lt h within
  simp only [Lane.ofByte, ne 0 (by decide), ne 1 (by decide), if_false]

theorem Mode.steers_iff (m : Mode) : m.steers = true ↔ m = .active ∨ m = .fallback := by
  cases m <;> simp [Mode.steers]

theorem Mode.not_steers {m : Mode} (active : m ≠ .active) (fallback : m ≠ .fallback) : m.steers = false :=
  Bool.eq_false_iff.2 fun steers => (m.steers_iff.1 steers).elim active fallback

theorem tagLive_iff {s : State} {l : Lane} {tag : Byte} :
    tagLive s l tag = true ↔ (∃ e ∈ s.planner.queue, e.lane = l ∧ e.origin = .oneShot tag) ∨
      ∃ x ∈ s.planner.series, x.lane = l ∧ x.tag = tag := by
  simp only [tagLive, isOneShot, Bool.or_eq_true, List.any_eq_true, decide_eq_true_eq]

theorem tagLive_free {s : State} {l : Lane} {tag : Byte}
    (queue : ∀ e ∈ s.planner.queue, ¬ (e.lane = l ∧ e.origin = .oneShot tag))
    (series : ∀ x ∈ s.planner.series, ¬ (x.lane = l ∧ x.tag = tag)) : tagLive s l tag = false := by
  rw [Bool.eq_false_iff, Ne, tagLive_iff]
  rintro (⟨e, mem, its⟩ | ⟨x, mem, its⟩)
  · exact queue e mem its
  · exact series x mem its

/-! ### BOOK (R129, R130) -/

section
variable {lane tag : Byte} {length earliest deadline : Half} {s : State}

theorem bookGood_iff :
    bookGood tag length earliest deadline = true ↔
      length.getLsbD 15 = false ∧ earliest.getLsbD 15 = false ∧ deadline.getLsbD 15 = false ∧ tag ≠ 0 ∧
        100 ≤ timeCodeValue length ∧ timeCodeValue deadline ≤ 1000000 ∧
        timeCodeValue earliest + timeCodeValue length ≤ timeCodeValue deadline := by
  simp only [bookGood, timeCodeBad, Bool.and_eq_true, Bool.not_eq_true', decide_eq_true_eq, and_assoc]

theorem requestBook_badArg (h : 1 < lane.toNat ∨ bookGood tag length earliest deadline = false) :
    requestBook lane tag length earliest deadline s = refuse stBadArg s := by
  rcases h with beyond | bad
  · rw [requestBook, Lane.ofByte_beyond beyond]
  · rw [requestBook, bad]
    cases Lane.ofByte lane <;> rfl

variable {l : Lane} (good : bookGood tag length earliest deadline = true)
include good

theorem requestBook_wrongMode (mode : s.control.mode.steers = false) :
    requestBook l.code tag length earliest deadline s = refuse stWrongMode s := by
  simp only [requestBook, Lane.ofByte_code, good, mode, Bool.not_true, Bool.not_false, Bool.false_eq_true, if_true,
    if_false]

variable (mode : s.control.mode.steers = true)
include mode

theorem requestBook_dupTag (live : tagLive s l tag = true) :
    requestBook l.code tag length earliest deadline s = refuse stDupTag s := by
  simp only [requestBook, Lane.ofByte_code, good, mode, live, Bool.not_true, Bool.false_eq_true, if_true, if_false]

variable (free : tagLive s l tag = false)
include free

theorem requestBook_queueFull (full : s.planner.admits l = false) :
    requestBook l.code tag length earliest deadline s = refuse stQueueFull s := by
  simp only [requestBook, Lane.ofByte_code, good, mode, free, full, Bool.not_true, Bool.not_false, Bool.false_eq_true,
    if_true, if_false]

theorem requestBook_searched (admits : s.planner.admits l = true) :
    requestBook l.code tag length earliest deadline s =
      bookSearch l tag (timeCodeValue length) (timeCodeValue earliest) (timeCodeValue deadline) s := by
  simp only [requestBook, Lane.ofByte_code, good, mode, free, admits, Bool.not_true, Bool.false_eq_true, if_false]

end

section
variable {l : Lane} {tag : Byte} {len earliest deadline : Nat} {s : State}

theorem bookSearch_granted {d : Int} (fit : placementSearch s none (max earliest 500 : Nat) deadline len = some d) :
    bookSearch l tag len earliest deadline s =
      (placeEntry (bookedEntry s l tag d len deadline) s,
        grantedFields s tag (bookedEntry s l tag d len deadline)) := by
  simp only [bookSearch, fit]

variable (nothing : placementSearch s none (max earliest 500 : Nat) deadline len = none)
include nothing

theorem bookSearch_tooLong (short : longestOpenRun s (max earliest 500 : Nat) deadline < len) :
    bookSearch l tag len earliest deadline s =
      (s, stTooLong :: le32n (longestOpenRun s (max earliest 500 : Nat) deadline)) := by
  simp only [bookSearch, nothing, if_pos short]

theorem bookSearch_noRoom (long : len ≤ longestOpenRun s (max earliest 500 : Nat) deadline) :
    bookSearch l tag len earliest deadline s = refuse stNoRoom s := by
  simp only [bookSearch, nothing, if_neg (Nat.not_lt.2 long)]

end

/-! ### CANCEL and SERIES_CLOSE (R137, R144) -/

section
variable {lane tag : Byte} {s : State}

theorem requestCancel_badArg (h : 1 < lane.toNat ∨ tag = 0) : requestCancel lane tag s = refuse stBadArg s := by
  rcases h with beyond | zero
  · rw [requestCancel, Lane.ofByte_beyond beyond]
  · simp only [requestCancel, if_pos zero]
    cases Lane.ofByte lane <;> rfl

theorem requestSeriesClose_badArg (h : 1 < lane.toNat ∨ tag = 0) : requestSeriesClose lane tag s = refuse stBadArg s := by
  rcases h with beyond | zero
  · rw [requestSeriesClose, Lane.ofByte_beyond beyond]
  · simp only [requestSeriesClose, if_pos zero]
    cases Lane.ofByte lane <;> rfl

variable {l : Lane} (good : tag ≠ 0)
include good

theorem requestCancel_noSuch (nobody : ∀ e ∈ s.planner.queue, ¬ (e.lane = l ∧ e.origin = .oneShot tag)) :
    requestCancel l.code tag s = refuse stNoSuch s := by
  have none_found : s.planner.queue.find? (fun e => isOneShot e l tag) = none :=
    List.find?_eq_none.2 fun e mem is => nobody e mem (of_decide_eq_true is)
  simp only [requestCancel, Lane.ofByte_code, if_neg good, none_found]

theorem requestCancel_taken {e : Reservation} (found : s.planner.queue.find? (fun e => isOneShot e l tag) = some e) :
    requestCancel l.code tag s =
      (reform (dropOneShot l tag s), [if e.state = .opened then stEndedEarly else stOk]) := by
  simp only [requestCancel, Lane.ofByte_code, if_neg good, found]

theorem requestSeriesClose_noSuch (nobody : ∀ x ∈ s.planner.series, ¬ (x.lane = l ∧ x.tag = tag)) :
    requestSeriesClose l.code tag s = refuse stNoSuch s := by
  have none_found : s.planner.series.find? (fun x => decide (x.lane = l ∧ x.tag = tag)) = none :=
    List.find?_eq_none.2 fun x mem is => nobody x mem (of_decide_eq_true is)
  simp only [requestSeriesClose, Lane.ofByte_code, if_neg good, none_found]

theorem requestSeriesClose_taken {x : Series}
    (found : s.planner.series.find? (fun x => decide (x.lane = l ∧ x.tag = tag)) = some x) :
    requestSeriesClose l.code tag s =
      (reform (dropSeries x.id s), [if seriesIsOpen s x.id then stEndedEarly else stOk]) := by
  simp only [requestSeriesClose, Lane.ofByte_code, if_neg good, found]

end

/-- The entries that CANCEL leaves. -/
theorem dropOneShot_eq (l : Lane) (tag : Byte) (s : State) :
    dropOneShot l tag s =
      s.withQueue (s.planner.queue.filter (fun e => decide (¬ (e.lane = l ∧ e.origin = .oneShot tag)))) := by
  simp only [dropOneShot, isOneShot, decide_not]

theorem seriesIsOpen_iff {s : State} {id : Nat} :
    seriesIsOpen s id = true ↔ ∃ e ∈ s.planner.queue, e.origin = .series id ∧ e.state = .opened := by
  simp only [seriesIsOpen, List.any_eq_true, decide_eq_true_eq]

/-! ### SERIES_OPEN (R140) -/

section
variable {s : State}

theorem seriesById_eq_none {id : Nat} : s.seriesById id = none ↔ ∀ x ∈ s.planner.series, x.id ≠ id := by
  simp only [State.seriesById, List.find?_eq_none, decide_eq_true_eq]

theorem seriesById_taken {id : Nat} : (s.seriesById id).isNone = false ↔ ∃ x ∈ s.planner.series, x.id = id := by
  simp only [State.seriesById, Option.isNone_eq_false_iff, List.find?_isSome, decide_eq_true_eq]

/-- The id taken is the lowest of the four that no series has (Table 7-4). -/
theorem freeSeriesId_lowest {id : Nat} (small : id < 4) (free : ∀ x ∈ s.planner.series, x.id ≠ id)
    (lower : ∀ j < id, ∃ x ∈ s.planner.series, x.id = j) : freeSeriesId s = some id := by
  rw [freeSeriesId, seriesIds_eq, List.find?_range_eq_some]
  refine ⟨by rw [seriesById_eq_none.2 free]; rfl, List.mem_range.2 small, fun j below => ?_⟩
  rw [seriesById_taken.2 (lower j below)]
  rfl

/-- Fewer than four series leave an id free. -/
theorem freeSeriesId_of_few (few : s.planner.series.length < 4) : ∃ id, freeSeriesId s = some id := by
  rw [← Option.isSome_iff_exists, ← Option.ne_none_iff_isSome]
  intro all_taken
  have taken : seriesIds ⊆ s.planner.series.map Series.id := fun id mem => by
    have held := List.find?_eq_none.1 all_taken id mem
    exact List.mem_map.2 (seriesById_taken.1 (Bool.eq_false_iff.2 held))
  have four := (List.subperm_of_subset (by decide : seriesIds.Nodup) taken).length_le
  rw [List.length_map] at four
  exact absurd few (Nat.not_lt.2 four)

variable {lane tag : Byte} {period length slide : Half}

theorem seriesGood_iff :
    seriesGood tag period length slide = true ↔
      period.getLsbD 15 = false ∧ length.getLsbD 15 = false ∧ slide.getLsbD 15 = false ∧ tag ≠ 0 ∧
        2000 ≤ timeCodeValue period ∧ timeCodeValue period ≤ 200000 ∧
        100 ≤ timeCodeValue length ∧ timeCodeValue length ≤ 8000 ∧
        2 * timeCodeValue slide ≤ timeCodeValue period ∧
        timeCodeValue length + timeCodeValue slide ≤ timeCodeValue period := by
  simp only [seriesGood, timeCodeBad, Bool.and_eq_true, Bool.not_eq_true', decide_eq_true_eq, and_assoc]

theorem requestSeriesOpen_badArg (h : 1 < lane.toNat ∨ seriesGood tag period length slide = false) :
    requestSeriesOpen lane tag period length slide s = refuse stBadArg s := by
  rcases h with beyond | bad
  · rw [requestSeriesOpen, Lane.ofByte_beyond beyond]
  · rw [requestSeriesOpen, bad]
    cases Lane.ofByte lane <;> rfl

variable {l : Lane} (good : seriesGood tag period length slide = true)
include good

theorem requestSeriesOpen_wrongMode (mode : s.control.mode.steers = false) :
    requestSeriesOpen l.code tag period length slide s = refuse stWrongMode s := by
  simp only [requestSeriesOpen, Lane.ofByte_code, good, mode, Bool.not_true, Bool.not_false, Bool.false_eq_true, if_true,
    if_false]

variable (mode : s.control.mode.steers = true)
include mode

theorem requestSeriesOpen_dupTag (live : tagLive s l tag = true) :
    requestSeriesOpen l.code tag period length slide s = refuse stDupTag s := by
  simp only [requestSeriesOpen, Lane.ofByte_code, good, mode, live, Bool.not_true, Bool.false_eq_true, if_true, if_false]

variable (free : tagLive s l tag = false)
include free

theorem requestSeriesOpen_tableFull (four : 4 ≤ s.planner.series.length) :
    requestSeriesOpen l.code tag period length slide s = refuse stTableFull s := by
  simp only [requestSeriesOpen, Lane.ofByte_code, good, mode, free, if_pos four, Bool.not_true, Bool.false_eq_true,
    if_false]

variable (few : s.planner.series.length < 4)
include few

theorem requestSeriesOpen_queueFull (full : s.planner.admits l = false) :
    requestSeriesOpen l.code tag period length slide s = refuse stQueueFull s := by
  simp only [requestSeriesOpen, Lane.ofByte_code, good, mode, free, if_neg (Nat.not_le.2 few), full, Bool.not_true,
    Bool.not_false, Bool.false_eq_true, if_true, if_false]

theorem requestSeriesOpen_searched (admits : s.planner.admits l = true) {id : Nat} (lowest : freeSeriesId s = some id) :
    requestSeriesOpen l.code tag period length slide s =
      seriesSearch id l tag (timeCodeValue period) (timeCodeValue length) (timeCodeValue slide) s := by
  simp only [requestSeriesOpen, Lane.ofByte_code, good, mode, free, if_neg (Nat.not_le.2 few), admits, lowest,
    Bool.not_true, Bool.false_eq_true, if_false]

end

/-! ### SET_LANES and READ_BOOKINGS (R124, R149) -/

theorem requestSetLanes_taken {s : State} (a b : Byte) (mode : s.control.mode = .standby) :
    requestSetLanes a b s =
      (s.withPlanner { s.planner with reserveA := min 6 a.toNat, reserveB := min 6 b.toNat },
        [if min 6 a.toNat = a.toNat ∧ min 6 b.toNat = b.toNat then 0x00 else 0x01, byteOf (min 6 a.toNat),
          byteOf (min 6 b.toNat), byteOf (16 - min 6 a.toNat - min 6 b.toNat)]) := by
  have clamped (n : Nat) : clampNat 0 6 n = min 6 n := (clampNat_eq 0 6 n (by decide)).trans (Nat.zero_max _)
  simp only [requestSetLanes, mode, clamped, ← okOrClamped_not, not_and_or, ne_eq, not_true_eq_false, if_false]

theorem requestReadBookings_badArg {part : Byte} (s : State) (h : 1 < part.toNat) :
    requestReadBookings part s = refuse stBadArg s := by
  have ne (c : Byte) (within : c.toNat ≤ 1) : part ≠ c := byte_ne_of_lt h within
  rw [requestReadBookings, if_neg (ne 0 (by decide)), if_neg (ne 1 (by decide))]

end Sys2Proof.Machine

section
open Sys2Proof Sys2Proof.Machine

/-- Settles O29: by the checks in their order, and then the search and the measured run. -/
theorem bookGrantsOrRefuses : Obligations.BookGrantsOrRefuses := by
  rintro t lane tag length earliest deadline s ready _ _ _ rfl rfl rfl
  rw [book_served ready]
  refine ⟨fun bad => ?badArg, fun bitL bitE bitD named shortest latest fits X hX => ?_⟩
  case badArg =>
    have bad : 1 < lane.toNat ∨ bookGood tag length earliest deadline = false := by
      refine or_iff_not_imp_right.2 fun good => ?_
      obtain ⟨bitL, bitE, bitD, named, shortest, latest, fits⟩ := bookGood_iff.1 (Bool.not_eq_false _ ▸ good)
      simp only [bitL, bitE, bitD, named, Bool.false_eq_true, false_or] at bad
      omega
    rw [requestBook_badArg bad]
    rfl
  subst hX
  have good : bookGood tag length earliest deadline = true :=
    bookGood_iff.2 ⟨bitL, bitE, bitD, named, shortest, latest, fits⟩
  refine ⟨fun active fallback => ?wrongMode, fun mode => ?_⟩
  case wrongMode =>
    rw [requestBook_wrongMode good (Mode.not_steers active fallback)]
    rfl
  have steers := (Mode.steers_iff _).2 mode
  refine ⟨fun live => ?dupTag, fun queue series => ?_⟩
  case dupTag =>
    rw [requestBook_dupTag good steers (tagLive_iff.2 live)]
    rfl
  have free := tagLive_free queue series
  refine ⟨fun full => ?queueFull, fun admits => ?_⟩
  case queueFull =>
    rw [requestBook_queueFull good steers free full]
    rfl
  rw [requestBook_searched good steers free admits]
  refine ⟨fun d fit start st hstart hst => ?granted, fun nothing => ⟨fun short => ?tooLong, fun long => ?noRoom⟩⟩
  case granted =>
    rw [bookSearch_granted fit, hst, hstart]
    rfl
  case tooLong =>
    rw [bookSearch_tooLong nothing short]
    rfl
  case noRoom =>
    rw [bookSearch_noRoom nothing long]
    rfl

/-- Settles O30: what is removed is named by lane and tag, and ended early when it was OPEN. -/
theorem cancelAndSeriesClose : Obligations.CancelAndSeriesClose := by
  intro t lane tag s ready
  rw [cancel_served ready, seriesClose_served ready]
  refine ⟨fun bad => ?badArg, fun good X hX => ?_⟩
  case badArg =>
    rw [requestCancel_badArg bad, requestSeriesClose_badArg bad]
    exact ⟨rfl, rfl⟩
  subst hX
  refine ⟨fun nobody => ?_, fun e found => ?_, fun nobody => ?_, fun x found => ?_⟩
  · rw [requestCancel_noSuch good nobody]
    rfl
  · rw [requestCancel_taken good found, dropOneShot_eq]
    rfl
  · rw [requestSeriesClose_noSuch good nobody]
    rfl
  · rw [requestSeriesClose_taken good found]
    simp only [seriesIsOpen_iff]
    rfl

/-- Settles O31: by the checks in their order, the lowest free id, and then the search. -/
theorem seriesOpenCreatesTheSeries : Obligations.SeriesOpenCreatesTheSeries := by
  rintro t lane tag period length slide s ready _ _ _ rfl rfl rfl
  rw [seriesOpen_served ready]
  refine ⟨fun bad => ?badArg, fun bitP bitL bitJ named p2000 p200000 l100 l8000 slides fits X hX => ?_⟩
  case badArg =>
    have bad : 1 < lane.toNat ∨ seriesGood tag period length slide = false := by
      refine or_iff_not_imp_right.2 fun good => ?_
      obtain ⟨bitP, bitL, bitJ, named, p2000, p200000, l100, l8000, slides, fits⟩ :=
        seriesGood_iff.1 (Bool.not_eq_false _ ▸ good)
      simp only [bitP, bitL, bitJ, named, Bool.false_eq_true, false_or] at bad
      omega
    rw [requestSeriesOpen_badArg bad]
    rfl
  subst hX
  have good : seriesGood tag period length slide = true :=
    seriesGood_iff.2 ⟨bitP, bitL, bitJ, named, p2000, p200000, l100, l8000, slides, fits⟩
  refine ⟨fun active fallback => ?wrongMode, fun mode => ?_⟩
  case wrongMode =>
    rw [requestSeriesOpen_wrongMode good (Mode.not_steers active fallback)]
    rfl
  have steers := (Mode.steers_iff _).2 mode
  refine ⟨fun live => ?dupTag, fun queue series =>
    ⟨fun four => ?tableFull, fun few => ⟨fun full => ?queueFull, fun admits =>
    ⟨fun nothing => ?noRoom, fun d id fit small unused lower start st hstart hst => ?opened⟩⟩⟩⟩
  case dupTag =>
    rw [requestSeriesOpen_dupTag good steers (tagLive_iff.2 live)]
    rfl
  all_goals have free := tagLive_free queue series
  case tableFull =>
    rw [requestSeriesOpen_tableFull good steers free four]
    rfl
  case queueFull =>
    rw [requestSeriesOpen_queueFull good steers free few full]
    rfl
  case noRoom =>
    obtain ⟨id, lowest⟩ := freeSeriesId_of_few few
    rw [requestSeriesOpen_searched good steers free few admits lowest, seriesSearch, nothing]
    rfl
  case opened =>
    rw [requestSeriesOpen_searched good steers free few admits (freeSeriesId_lowest small unused lower), seriesSearch, fit,
      hst, hstart]
    rfl

/-- Settles O32: the reserves are clamped, and the two parts are read record by record. -/
theorem laneReservesAndReadBookings : Obligations.LaneReservesAndReadBookings := by
  refine ⟨fun t a b s ready => ⟨fun mode => ?wrongMode, fun mode x y hx hy => ?taken, rfl, rfl, fun p => ⟨rfl, rfl⟩⟩,
    fun t part s ready => ⟨fun bad => ?badArg, fun queue => ?queue, fun series => ?series⟩⟩
  case wrongMode =>
    rw [setLanes_served ready, requestSetLanes, if_pos mode]
    rfl
  case taken =>
    rw [setLanes_served ready, requestSetLanes_taken a b mode, hx, hy]
    rfl
  case badArg =>
    rw [readBookings_served ready, requestReadBookings_badArg s bad]
    rfl
  case queue =>
    subst queue
    rw [readBookings_served ready]
    refine congrArg (fun fields => Host.Outcome.next (answered 0xAD t
      ([0x00, byteOf s.planner.reserveA, byteOf s.planner.reserveB, byteOf s.planner.queue.length] ++ fields) s))
      (List.flatMap_congr fun e _ => ?_)
    obtain ⟨lane, origin, start, len, deadline, state⟩ := e
    cases origin <;> rfl
  case series =>
    subst series
    rw [readBookings_served ready]
    rfl
end

end

section
/-! PROOFS. The escalation unit: its requests, the score, the surprise test and escalations. -/

namespace Sys2Proof.Machine

/-! ### SET_ESCALATION, READ_FAULT and CLEAR_FAULT (R161 to R163) -/

/-- The code of a policy names it (R163). -/
theorem Policy.ofByte_code (p : Policy) : Policy.ofByte p.code = some p := by
  cases p <;> rfl

theorem Policy.ofByte_beyond {b : Byte} (h : 3 < b.toNat) : Policy.ofByte b = none := by
  have ne (c : Byte) (within : c.toNat ≤ 3) : b ≠ c := byte_ne_of_lt h within
  simp only [Policy.ofByte, ne 0 (by decide), ne 1 (by decide), ne 2 (by decide), ne 3 (by decide), if_false]

theorem requestSetEscalation_beyond (threshold : Byte) {policy : Byte} (s : State) (h : 3 < policy.toNat) :
    requestSetEscalation threshold policy s = refuse stBadArg s := by
  rw [requestSetEscalation, Policy.ofByte_beyond h]

theorem requestSetEscalation_taken (threshold : Byte) (p : Policy) (s : State) {n : Nat}
    (clamped : n = max 1 (min 15 threshold.toNat)) :
    requestSetEscalation threshold p.code s =
      (s.withEscalation { s.escalation with threshold := n, policy := p },
        [if n = threshold.toNat then 0x00 else 0x01, byteOf n, p.code]) := by
  simp only [requestSetEscalation, Policy.ofByte_code, clampNat_eq 1 15 _ (by decide), ← clamped, ne_eq,
    okOrClamped_not]

theorem requestReadFault_empty {s : State} (empty : s.escalation.fault = none) :
    requestReadFault s = (s, List.replicate 19 0x00) := by
  rw [requestReadFault, empty]
  rfl

theorem requestReadFault_filled {s : State} {f : FaultRecord} (filled : s.escalation.fault = some f) :
    requestReadFault s = (s, stOk :: yesNo true :: f.fields) := by
  rw [requestReadFault, filled]
  rfl

/-- An empty fault record stays as it is. -/
theorem requestClearFault_empty {s : State} (empty : s.escalation.fault = none) :
    requestClearFault s = (s, [0x00, 0x00, 0x00]) := by
  have same : s.withEscalation { s.escalation with fault := none } = s := by rw [← empty]; rfl
  rw [requestClearFault, same, empty]
  rfl

theorem requestClearFault_filled {s : State} {f : FaultRecord} (filled : s.escalation.fault = some f) :
    requestClearFault s =
      (s.withEscalation { s.escalation with fault := none }, [0x00, 0x01, byteOf f.further]) := by
  rw [requestClearFault, filled]
  rfl

/-! ### The drain and the surprise test (R150, R152, R153) -/

theorem scoreDrain_taken {s : State} (run : Running s) (multiple : s.airClock.toNat % 250000 = 0)
    (fresh : s.escalation.drained = false) : exec .scoreDrain s = .next (drainScore s) :=
  effect_taken drainScore run (by rw [drainDue, fresh, decide_eq_true multiple]; rfl)

theorem WindowCode.showsAir_iff (c : WindowCode) : c.showsAir = true ↔ c ≠ .shut := by
  cases c <;> decide

/-- The seven conditions of R150. -/
theorem isSurprise_iff {r : BurstRecord} {assoc : Option Nat} {s : State} :
    isSurprise r assoc s = true ↔ r.structured = false ∧ s.dwells.operating = some r.channel ∧ assoc = none ∧
      r.cutAtStart = false ∧ 200 ≤ r.duration ∧ r.code ≠ .shut ∧
      (s.control.mode = .active ∨ s.control.mode = .fallback) := by
  simp only [isSurprise, Bool.and_eq_true, Bool.not_eq_true', decide_eq_true_eq, Option.isNone_iff_eq_none,
    WindowCode.showsAir_iff, Mode.steers_iff, and_assoc]

theorem escalationTest_expected {r : BurstRecord} {assoc : Option Nat} {s : State} (h : isSurprise r assoc s = false) :
    escalationTest r assoc s = s := by
  rw [escalationTest, h, if_neg Bool.false_ne_true]

/-- What an escalation that began in `s` does after its policy has been applied (R158, R159). -/
def escalationEnded (s : State) (r : BurstRecord) (out : State × ActionTaken) : State :=
  let s' := fillFault s r out.2 out.1
  escalationReport s out.2 (s'.withLink s'.link.setEscalated)

/-- The state in which an escalation applies its policy (R155). -/
def State.scoreCleared (s : State) : State := s.withEscalation { s.escalation with score := 0 }

/-- A surprise escalates when the score that it brings is at or above the threshold (R152). -/
theorem escalationTest_surprise {r : BurstRecord} {assoc : Option Nat} {s : State} (h : isSurprise r assoc s = true) :
    escalationTest r assoc s =
      if s.escalation.threshold ≤ min 15 (s.escalation.score + 1) then
        escalationEnded s r (applyPolicy s.scoreCleared)
      else s.withEscalation { s.escalation with score := min 15 (s.escalation.score + 1) } := by
  rw [escalationTest, if_pos h]
  rfl

/-! ### The fault record and the ESCALATION report (R158 to R160) -/

/-- The first escalation fills the record and a later one counts on it. -/
theorem FaultRecord.after_eq {old : Option FaultRecord} {s : State} {r : BurstRecord} {action : ActionTaken}
    {record : FaultRecord} (operating : s.dwells.operating = some r.channel)
    (first : old = none → record =
      { instant := s.airClock, channel := r.channel, modeBefore := s.control.mode, policy := s.escalation.policy
        action := action, surpriseStart := r.start, surpriseDuration := r.duration, further := 0 })
    (later : ∀ f, old = some f → record = { f with further := min 255 (f.further + 1) }) :
    FaultRecord.after old s r action = record := by
  cases old with
  | none =>
    rw [first rfl, FaultRecord.after, operating]
    rfl
  | some f =>
    rw [later f rfl]
    rfl

theorem escalationEnded_eq {s : State} {r : BurstRecord} {out : State × ActionTaken} {record : FaultRecord}
    (operating : s.dwells.operating = some r.channel)
    (recorded : FaultRecord.after out.1.escalation.fault s r out.2 = record) :
    escalationEnded s r out = { out.1 with
      escalation := { out.1.escalation with fault := some record }
      link := Link.hand { out.1.link with flags := { out.1.link.flags with escalated := true } } .escalation
        ([s.escalation.policy.code, out.2.code, byteOf r.channel] ++ le32 s.airClock) } := by
  rw [escalationEnded, escalationReport, operating, ← recorded]
  rfl

theorem escalationEnded_escalation {s : State} {r : BurstRecord} {out : State × ActionTaken} {record : FaultRecord}
    (kept : out.1.escalation = s.scoreCleared.escalation)
    (recorded : FaultRecord.after s.escalation.fault s r out.2 = record) :
    (escalationEnded s r out).escalation = { s.escalation with score := 0, fault := some record } := by
  show { out.1.escalation with fault := some (FaultRecord.after out.1.escalation.fault s r out.2) } = _
  rw [kept, ← recorded]
  rfl

theorem escalationEnded_mode (s : State) (r : BurstRecord) (out : State × ActionTaken) :
    (escalationEnded s r out).control.mode = out.1.control.mode := rfl

/-- ESCALATED stays set while the report is handed over. -/
theorem escalationEnded_flag (s : State) (r : BurstRecord) (out : State × ActionTaken) :
    (escalationEnded s r out).link.flags.escalated = true :=
  (Link.hand_handed (fillFault s r out.2 out.1).link.setEscalated _ _).escalated rfl

/-! ### The policy (R156, R157) -/

section
variable {s : State}

theorem applyPolicy_report (policy : s.escalation.policy = .report) : applyPolicy s = (s, .none) := by
  rw [applyPolicy, policy]

theorem applyPolicy_relearn (policy : s.escalation.policy = .relearn) : applyPolicy s = (relearn s, .relearn) := by
  rw [applyPolicy, policy]

theorem applyPolicy_fallback (policy : s.escalation.policy = .fallback) :
    applyPolicy s = escalateMode (fallbackTarget s) s := by
  rw [applyPolicy, policy]

theorem applyPolicy_hold (policy : s.escalation.policy = .hold) : applyPolicy s = escalateMode .hold s := by
  rw [applyPolicy, policy]

theorem fallbackTarget_eq (s : State) : fallbackTarget s =
    if s.control.mode = .active ∧ s.planner.template.isSome = true then .fallback else .hold := by
  unfold fallbackTarget
  cases s.control.mode <;> cases s.planner.template <;> rfl

theorem Mode.asAction_eq (m : Mode) : m.asAction = if m = .fallback then .fallback else .hold := by
  cases m <;> rfl

theorem escalateMode_mode (m : Mode) (s : State) : (escalateMode m s).1.control.mode = m := changeMode_mode m s

/-- FALLBACK and HOLD come to the change of mode that they bring. -/
theorem applyPolicy_enters (policy : s.escalation.policy = .fallback ∨ s.escalation.policy = .hold) :
    (applyPolicy s).1 = (escalateMode (applyPolicy s).1.control.mode s).1 := by
  rcases policy with policy | policy
  · rw [applyPolicy_fallback policy, escalateMode_mode]
  · rw [applyPolicy_hold policy, escalateMode_mode]

/-- FALLBACK is entered from ACTIVE alone (R157). -/
theorem active_of_entersFallback (policy : s.escalation.policy = .fallback ∨ s.escalation.policy = .hold)
    (enters : (applyPolicy s).1.control.mode = .fallback) : s.control.mode = .active := by
  rcases policy with policy | policy
  · rw [applyPolicy_fallback policy, escalateMode_mode, fallbackTarget_eq] at enters
    by_contra other
    rw [if_neg (fun both => other both.1)] at enters
    cases enters
  · rw [applyPolicy_hold policy, escalateMode_mode] at enters
    cases enters

/-- No policy touches the escalation unit. -/
theorem applyPolicy_escalation (s : State) : (applyPolicy s).1.escalation = s.escalation := by
  cases policy : s.escalation.policy with
  | report => rw [applyPolicy_report policy]
  | relearn => rw [applyPolicy_relearn policy, (relearn_trackingStep s).escalation]
  | fallback => rw [applyPolicy_fallback policy]; exact (changeMode_plannerStep _ s).escalation
  | hold => rw [applyPolicy_hold policy]; exact (changeMode_plannerStep _ s).escalation

end

/-- The replies of the instant and the MODE report after a change of mode (R157, R172, R173). -/
theorem escalateMode_eq (m : Mode) (s : State) : (escalateMode m s).1 = { changeMode m s with
    link := ((changeMode m s).link.amendModes s.control.modeReplies m).hand .mode
      ([s.control.mode.code, m.code, 0] ++ le32 s.airClock) } := by
  rw [← changeMode_modeReplies m s, ← (changeMode_air m s).airClock]
  rfl

theorem changeMode_hold {s : State} (steers : s.control.mode.steers = true) :
    changeMode .hold s = suspendBookings (reform (s.setMode .hold)) :=
  changeMode_suspends (fun hold => by rw [hold] at steers; cases steers) steers rfl

/-! ### RELEARN (R156) -/

/-- The table after the demotion of one id, read at any id. -/
theorem relearnEntry_tracker (p : Noticed) (id j : Nat) : (relearnEntry p id).1.tracker j =
    if j = id ∧ (p.1.tracker j).relearns = true then (p.1.tracker j).relearned p.1.airClock else p.1.tracker j := by
  simp only [relearnEntry, Tracker.relearns, decide_eq_true_eq]
  split
  · rename_i demoted
    have bound : id < p.1.tracking.entries.length := State.tracker_bound (by rw [demoted.2]; decide)
    refine (State.setTracker_tracker bound _ j).trans ?_
    by_cases same : j = id
    · subst same
      rw [if_pos rfl, if_pos ⟨rfl, demoted⟩]
    · rw [if_neg same, if_neg (fun both => same both.1)]
  · rename_i kept
    rw [if_neg]
    rintro ⟨rfl, demoted⟩
    exact kept demoted

theorem foldl_relearnEntry_tracker (s : State) (n j : Nat) :
    ((List.range n).foldl relearnEntry (s, false)).1.tracker j =
      if j < n ∧ (s.tracker j).relearns = true then (s.tracker j).relearned s.airClock else s.tracker j := by
  induction n with
  | zero => rw [if_neg (fun both => Nat.not_lt_zero j both.1)]; rfl
  | succ n ih =>
    have clock := (foldl_noticed relearnEntry relearnEntry_trackingStep (List.range n) (s, false)).airClock
    rw [List.range_succ, List.foldl_append, List.foldl_cons, List.foldl_nil, relearnEntry_tracker, clock, ih]
    rcases Nat.lt_trichotomy j n with below | rfl | above
    · simp only [below, Nat.lt_succ_of_lt below, below.ne, true_and, false_and, if_false]
    · simp only [Nat.lt_irrefl, Nat.lt_succ_self, true_and, false_and, if_false]
    · simp only [Nat.not_lt.2 above.le, Nat.not_lt.2 (Nat.succ_le_of_lt above), above.ne', false_and, if_false]

/-- Every LOCKED oven of the twelve ids is demoted, and nothing else changes in the table. -/
theorem relearn_tracker (s : State) {id : Nat} (h : id < 12) : (relearn s).tracker id =
    if (s.tracker id).kind = .oven ∧ (s.tracker id).state = .locked then (s.tracker id).relearned s.airClock
    else s.tracker id := by
  have kept (b : Bool) (v : State) : (planChangeIf b v).tracker id = v.tracker id := by
    rw [State.tracker, (planChangeIf_plannerStep b v).tracking]
    rfl
  rw [relearn, kept, trackerIds_eq, foldl_relearnEntry_tracker]
  simp only [h, true_and, Tracker.relearns, decide_eq_true_eq]

/-- RELEARN alone changes the tracker table. -/
theorem applyPolicy_tracker (s : State) {id : Nat} (h : id < 12) : (applyPolicy s).1.tracker id =
    if s.escalation.policy = .relearn ∧ (s.tracker id).kind = .oven ∧ (s.tracker id).state = .locked then
      (s.tracker id).relearned s.airClock
    else s.tracker id := by
  have kept (m : Mode) : (escalateMode m s).1.tracker id = s.tracker id :=
    congrArg (fun t : Tracking => t.entries.getD id Tracker.free) (changeMode_tracking m s)
  cases policy : s.escalation.policy with
  | report => rw [applyPolicy_report policy]; rfl
  | relearn =>
    rw [applyPolicy_relearn policy, relearn_tracker s h]
    simp only [true_and]
  | fallback => rw [applyPolicy_fallback policy, kept]; rfl
  | hold => rw [applyPolicy_hold policy, kept]; rfl

/-- RELEARN of a table of twelve, with a plan change when an entry was demoted. -/
theorem relearn_noticed {s v : State} (size : s.tracking.entries.length = 12)
    (demoted : v = { s with
      tracking := { s.tracking with
        entries := s.tracking.entries.map
          (fun x => if x.kind = .oven ∧ x.state = .locked then x.relearned s.airClock else x) }
      link := (List.range 12).foldl (fun l id =>
        if (s.tracker id).kind = .oven ∧ (s.tracker id).state = .locked then l.hand .tracker [byteOf id, 0, 3, 2, 9]
        else l) s.link }) :
    relearn s = if ∃ x ∈ s.tracking.entries, x.kind = .oven ∧ x.state = .locked then planChange v else v := by
  have changed : s.changed Tracker.relearns (fun x => x.relearned s.airClock) (fun id _ => [byteOf id, 0, 3, 2, 9]) 12
      = v := by
    rw [demoted, State.changed_all size]
    simp only [Tracker.relearns, decide_eq_true_eq]
  rw [relearn_eq size, changed]
  refine planChangeIf_eq ?_ v
  simp only [List.any_eq_true, List.mem_range, Tracker.relearns, decide_eq_true_eq]
  constructor
  · rintro ⟨id, small, locked⟩
    exact ⟨_, State.tracker_mem (size ▸ small), locked⟩
  · rintro ⟨x, mem, locked⟩
    obtain ⟨id, bound, rfl⟩ := List.mem_iff_getElem.1 mem
    exact ⟨id, size ▸ bound, by rwa [State.tracker_eq bound]⟩

/-! ### Replies given the mode in force (R173) -/

/-- The last reply is given the mode first when it carries one. -/
theorem amendLast_snoc {n k : Nat} (m : Mode) (fs : List Frame) (f : Frame) (pos : 0 < n)
    (rest : k = if f.repliesMode then n - 1 else n) :
    amendLast n m (fs ++ [f]) =
      ((amendLast k m fs).1, (amendLast k m fs).2 ++ [if f.repliesMode then f.withMode m else f]) := by
  induction fs with
  | nil =>
    subst rest
    simp only [List.nil_append, amendLast, pos, decide_true, Bool.true_and]
    cases f.repliesMode <;> rfl
  | cons g fs ih =>
    rw [List.cons_append, amendLast, amendLast, ih]
    cases decide (0 < (amendLast k m fs).1) && g.repliesMode <;> rfl

theorem Link.amendModes_snoc {l : Link} {n k : Nat} (m : Mode) {fs : List Frame} {f : Frame}
    (replies : l.replies = fs ++ [f]) (pos : 0 < n) (rest : k = if f.repliesMode then n - 1 else n) :
    l.amendModes n m = { Link.amendModes { l with replies := fs } k m with
      replies := (Link.amendModes { l with replies := fs } k m).replies ++
        [if f.repliesMode then f.withMode m else f] } := by
  simp only [Link.amendModes, replies, amendLast_snoc m fs f pos rest]

/-- With no reply waiting, the one on TXD is given the mode. -/
theorem Link.amendModes_sending {l : Link} {n : Nat} (m : Mode) (replies : l.replies = []) (pos : 0 < n) :
    l.amendModes n m = { l with
      sending := l.sending.map (fun x =>
        if x.frame.repliesMode then { x with frame := x.frame.withMode m } else x) } := by
  simp only [Link.amendModes, replies, amendLast, decide_eq_true pos, Bool.true_and]

end Sys2Proof.Machine

section
open Sys2Proof Sys2Proof.Machine

/-- Settles O33: by the policy byte, and by whether the fault record is filled. -/
theorem escalationSettingsAndFaultRecord : Obligations.EscalationSettingsAndFaultRecord := by
  refine ⟨fun t threshold policy s ready => ⟨fun beyond => ?refused, fun p n code clamped => ?taken⟩,
    fun t s ready => ⟨fun empty => ?readEmpty, fun f filled => ?readFilled⟩,
    fun t s ready => ⟨fun empty => ?clearEmpty, fun f filled => ?clearFilled⟩⟩
  case refused =>
    rw [setEscalation_served ready, requestSetEscalation_beyond threshold s beyond]
    rfl
  case taken =>
    subst code
    rw [setEscalation_served ready, requestSetEscalation_taken threshold p s clamped]
    rfl
  case readEmpty => rw [readFault_served ready, requestReadFault_empty empty]
  case readFilled =>
    rw [readFault_served ready, requestReadFault_filled filled]
    rfl
  case clearEmpty => rw [clearFault_served ready, requestClearFault_empty empty]
  case clearFilled =>
    rw [clearFault_served ready, requestClearFault_filled filled]
    rfl
/-- Settles O45: the score, then the seven conditions, and at the threshold the state that the policy leaves, ended
alike for every policy. -/
theorem scoreDrainsAndSurprisesEscalate : Obligations.ScoreDrainsAndSurprisesEscalate := by
  refine ⟨fun s run multiple fresh => ?drain, fun r assoc s surprise hsurprise n hn => ?test,
    fun l n m carries given hcarries hgiven => ?amended⟩
  case drain =>
    rw [scoreDrain_taken run multiple fresh]
    rfl
  case amended =>
    obtain rfl : carries = Frame.repliesMode := funext hcarries
    obtain rfl : given = fun f => f.withMode m := funext hgiven
    exact ⟨l.amendModes_zero m, fun fs f k replies rest pos => Link.amendModes_snoc m replies pos rest,
      fun replies pos => Link.amendModes_sending m replies pos⟩
  case test =>
    have tested : isSurprise r assoc s = true ↔ surprise := isSurprise_iff.trans hsurprise.symm
    subst hn
    refine ⟨fun expected => ?expected, fun is below => ?counted,
      fun is reached new action demoted hnew haction hdemoted => ?escalated⟩
    case expected => exact escalationTest_expected (Bool.eq_false_iff.2 (mt tested.1 expected))
    case counted =>
      rw [escalationTest_surprise (tested.2 is), if_neg (Nat.not_le.2 below)]
      rfl
    obtain ⟨_, operating, _, _, _, _, steers⟩ := hsurprise.1 is
    obtain rfl : demoted = fun x => x.relearned s.airClock := funext hdemoted
    have entered : (applyPolicy s.scoreCleared).1.control.mode = new ∧ (applyPolicy s.scoreCleared).2 = action := by
      subst hnew haction
      cases policy : s.escalation.policy with
      | report =>
        rw [applyPolicy_report (s := s.scoreCleared) policy]
        exact ⟨rfl, rfl⟩
      | relearn =>
        rw [applyPolicy_relearn (s := s.scoreCleared) policy]
        exact ⟨congrArg Control.mode (relearn_trackingStep s.scoreCleared).control, rfl⟩
      | fallback =>
        rw [applyPolicy_fallback (s := s.scoreCleared) policy, escalateMode_mode, fallbackTarget_eq]
        exact ⟨rfl, Mode.asAction_eq _⟩
      | hold =>
        rw [applyPolicy_hold (s := s.scoreCleared) policy]
        exact ⟨escalateMode_mode .hold s.scoreCleared, rfl⟩
    have ended := escalationTest_surprise (tested.2 is)
    rw [if_pos reached] at ended
    refine ⟨⟨_, rfl, escalationTest_air r assoc s, ?mode, ?flag, ?record, fun id small => ?entry⟩,
      fun u changed shown finish report hu hchanged hshown hfinish hreport => ?outcome⟩
    case mode => rw [ended, escalationEnded_mode, entered.1]
    case flag => rw [ended, escalationEnded_flag]
    case record =>
      rw [ended]
      refine escalationEnded_escalation (applyPolicy_escalation _) ?_
      rw [entered.2]
      exact FaultRecord.after_eq operating (fun h => by rw [h]) (fun f h => by rw [h])
    case entry =>
      rw [ended]
      exact applyPolicy_tracker s.scoreCleared small
    case outcome =>
      have finished (v : State) (kept : v.escalation.fault = s.escalation.fault) :
          escalationEnded s r (v, action) = finish v := by
        rw [hfinish]
        refine escalationEnded_eq operating ?_
        rw [kept]
        exact FaultRecord.after_eq operating (fun h => by rw [h]) (fun f h => by rw [h])
      subst hu hchanged hshown
      have outcome : escalationTest r assoc s = finish (applyPolicy s.scoreCleared).1 := by
        rw [ended, ← finished _ (by rw [applyPolicy_escalation]; rfl), ← entered.2]
      rw [outcome]
      refine ⟨fun policy => ?reported, fun policy size v hv => ?relearned, fun policy => ?entersMode⟩
      case reported =>
        rw [applyPolicy_report (s := s.scoreCleared) policy]
        rfl
      case relearned =>
        rw [applyPolicy_relearn (s := s.scoreCleared) policy, relearn_noticed (s := s.scoreCleared) size hv]
        exact ⟨fun locked => congrArg finish (if_pos locked),
          fun nobody => congrArg finish (if_neg fun ⟨x, mem, locked⟩ => nobody x mem locked)⟩
      case entersMode =>
        have reported : (applyPolicy s.scoreCleared).1 = report (changeMode new s.scoreCleared) := by
          rw [applyPolicy_enters (s := s.scoreCleared) policy, escalateMode_eq, entered.1, hreport]
          rfl
        rw [reported]
        refine ⟨fun enters => ?replans, fun enters => ?suspends⟩
        case replans =>
          have active := active_of_entersFallback (s := s.scoreCleared) policy (entered.1.trans enters)
          subst enters
          rw [changeMode_replans (by rw [active]; decide) (by rw [active]; rfl) rfl]
          rfl
        case suspends =>
          subst enters
          rw [changeMode_hold (s := s.scoreCleared) ((Mode.steers_iff _).2 steers), suspendBookings_eq]
          rfl
end

end

section
/-! PROOFS. The refusals of SET_MODE and RESUME, and the restart mark. -/

namespace Sys2Proof.Machine

/-! ### SET_MODE and RESUME refused (R169, R171) -/

/-- A mode byte outside 1 to 4 names no running mode (R169). -/
theorem modeArgument_eq_none {b : Byte} (h : b.toNat = 0 ∨ 4 < b.toNat) : modeArgument b = none := by
  revert b
  decide

/-- A mode byte from 1 to 4 names a running mode (R169). -/
theorem modeArgument_isSome {b : Byte} (low : 1 ≤ b.toNat) (high : b.toNat ≤ 4) : (modeArgument b).isSome = true := by
  revert b
  decide

/-- The first check of SET_MODE: its byte (R169). -/
theorem requestSetMode_badArg {mode : Byte} {s : State} (h : modeArgument mode = none) :
    requestSetMode mode s = refuse stBadArg s := by
  rw [requestSetMode, h]

/-- The second: STANDBY refuses every mode (R169). -/
theorem requestSetMode_standby {mode : Byte} {s : State} (h : (modeArgument mode).isSome = true)
    (standby : s.control.mode = .standby) : requestSetMode mode s = refuse stWrongMode s := by
  obtain ⟨m, named⟩ := Option.isSome_iff_exists.1 h
  simp only [requestSetMode, named, if_pos standby]

/-- The present mode again changes no more than the count of replies (R169; log 33). -/
theorem requestSetMode_same {s : State} (running : s.control.mode ≠ .standby) :
    requestSetMode s.control.mode.code s = (noteSameMode s, [stOk, s.control.mode.code]) := by
  simp only [requestSetMode, modeArgument_code running, if_neg running, if_true]

/-- With no reply of a change counted, none is counted for the present mode (log 33). -/
theorem noteSameMode_uncounted {s : State} (h : s.control.modeReplies = 0) : noteSameMode s = s := by
  rw [noteSameMode, if_pos h, ← h]
  rfl

/-- After the reply of a change at the same instant one more is counted (log 33). -/
theorem noteSameMode_counted {s : State} (h : s.control.modeReplies ≠ 0) : noteSameMode s = noteModeReply s := by
  rw [noteSameMode, if_neg h, noteModeReply]

/-- From another running mode SET_MODE with FALLBACK's code is left to the checks of FALLBACK (R169). -/
theorem requestSetMode_fallback {s : State} (running : s.control.mode ≠ .standby) (other : s.control.mode ≠ .fallback) :
    requestSetMode Mode.fallback.code s = toFallback s := by
  simp only [requestSetMode, modeArgument_code (m := .fallback) (by decide), if_neg running, if_neg other, if_true]

/-- The fourth check: FALLBACK is not entered from OBSERVE or HOLD (R169). -/
theorem toFallback_wrongMode {s : State} (h : s.control.mode = .observe ∨ s.control.mode = .hold) :
    toFallback s = refuse stWrongMode s := by
  rw [toFallback, if_pos h]

/-- The fifth: FALLBACK needs a template (R169). -/
theorem toFallback_noTemplate {s : State} (observe : s.control.mode ≠ .observe) (hold : s.control.mode ≠ .hold)
    (absent : s.planner.template = none) : toFallback s = refuse stNoTemplate s := by
  rw [toFallback, if_neg (not_or.2 ⟨observe, hold⟩), absent, if_pos Option.isNone_none]

/-- RESUME is refused outside HOLD and FALLBACK (R171). -/
theorem requestResume_wrongMode {s : State} (hold : s.control.mode ≠ .hold) (fallback : s.control.mode ≠ .fallback) :
    requestResume s = refuse stWrongMode s := by
  rw [requestResume, if_neg (not_or.2 ⟨hold, fallback⟩)]

/-! ### The restart mark (R174, R175) -/

/-- Another kind byte refuses RESTART (R174). -/
theorem requestRestart_badArg {kind : Byte} {s : State} (h : 1 < kind.toNat) :
    requestRestart kind s = refuse stBadArg s := by
  have notWarm : kind ≠ 0 := by rintro rfl; exact absurd h (by decide)
  have notCold : kind ≠ 1 := by rintro rfl; exact absurd h (by decide)
  rw [requestRestart, if_neg notWarm, if_neg notCold]

/-- While a restart waits a complete frame is dropped unjudged, and the receiver hunts again (R175). -/
theorem judgeComplete_marked {s : State} {kind : RestartKind} {f : Frame} {crc : Byte}
    (mark : s.control.mark = some kind) (complete : completeFrame s = some (f, crc)) :
    judgeComplete s = huntAgain s := by
  have marked : (huntAgain s).control.mark.isSome = true := by
    rw [huntAgain, State.withLink_control, mark, Option.isSome_some]
  simp only [judgeComplete, complete, judge, marked, if_true]

end Sys2Proof.Machine

section
open Sys2Proof Sys2Proof.Machine

/-- Settles O18: each check of the two requests, by the lemma that says when it refuses. -/
theorem modeRequestsRefusedInOrder : Obligations.ModeRequestsRefusedInOrder := by
  intro t mode s ready
  refine ⟨fun bad => ?badArg, fun low high standby => ?standby, fun running same => ⟨fun zero => ?uncounted,
    fun nonzero => ?counted⟩, fun from_mode three => ?wrongMode, fun active three absent => ?noTemplate,
    fun hold fallback => ?resume⟩
  case badArg =>
    rw [setMode_served ready, requestSetMode_badArg (modeArgument_eq_none bad)]
    rfl
  case standby =>
    rw [setMode_served ready, requestSetMode_standby (modeArgument_isSome low high) standby]
    rfl
  case uncounted =>
    rw [setMode_served ready, same, requestSetMode_same running, noteSameMode_uncounted zero]
    rfl
  case counted =>
    rw [setMode_served ready, same, requestSetMode_same running, noteSameMode_counted nonzero]
    rfl
  case wrongMode =>
    have code : mode = Mode.fallback.code := three
    have running : s.control.mode ≠ .standby := by rcases from_mode with h | h <;> rw [h] <;> decide
    have other : s.control.mode ≠ .fallback := by rcases from_mode with h | h <;> rw [h] <;> decide
    rw [setMode_served ready, code, requestSetMode_fallback running other, toFallback_wrongMode from_mode]
    rfl
  case noTemplate =>
    have code : mode = Mode.fallback.code := three
    have other {m : Mode} (h : m ≠ .active) : s.control.mode ≠ m := by rw [active]; exact h.symm
    rw [setMode_served ready, code, requestSetMode_fallback (other (by decide)) (other (by decide)),
      toFallback_noTemplate (other (by decide)) (other (by decide)) absent]
    rfl
  case resume =>
    rw [resume_served ready, requestResume_wrongMode hold fallback]
    rfl

/-- Settles O14: RESTART by its kind byte, and while the mark is set neither way of a request's arrival reaches the
inbox. -/
theorem restartMarkSetAndRequestsDropped : Obligations.RestartMarkSetAndRequestsDropped := by
  refine ⟨fun t kind s ready => ⟨?warm, ?cold, fun bad => ?badArg⟩, fun s k mark => ⟨fun c f request => ?request,
    fun f crc run complete => ?frame⟩⟩
  case warm =>
    rintro rfl
    exact restart_served ready t 0
  case cold =>
    rintro rfl
    exact restart_served ready t 1
  case badArg =>
    rw [restart_served ready, requestRestart_badArg bad]
    rfl
  case request =>
    obtain ⟨kind, ticket, payload, _, arrives⟩ := requestOf_arrival request
    rw [arrives, arrive_marked kind ticket payload mark]
  case frame =>
    have taken : exec .frameComplete s = .next (judgeComplete s) := outOfReset_running _ run
    rw [taken, judgeComplete_marked mark complete]
    rfl
end

end

section
/-! PROOFS. Framing errors, frame timeouts and low levels. -/

namespace Sys2Proof.Machine

/-! ### Frames dropped (R184, R185) -/

/-- With no complete frame in the receiver nothing is judged. -/
theorem judgeComplete_incomplete {s : State}
    (h : ∀ t0 len kind ticket bytes crc, s.link.receiver ≠ .check t0 len kind ticket bytes (some crc)) :
    judgeComplete s = s := by
  have incomplete : completeFrame s = none := by
    unfold completeFrame
    split
    · exact absurd ‹_› (h _ _ _ _ _ _)
    all_goals rfl
  simp only [judgeComplete, incomplete]

/-- The receiver hunts afterwards, and one link error is counted unless it was hunting already (R185). -/
theorem dropIfReceiving_eq (s : State) : dropIfReceiving s = s.withLink { s.link with
    receiver := .hunting
    errors := if s.link.receiver = .hunting then s.link.errors else min 255 (s.link.errors + 1) } := by
  cases receiver : s.link.receiver
  case hunting =>
    have kept : dropIfReceiving s = s := by simp only [dropIfReceiving, receiver]
    rw [kept, if_pos rfl, ← receiver]
    rfl
  all_goals
    simp only [dropIfReceiving, receiver, reduceCtorEq, if_false]
    rfl

/-- A framing error drops the frame, if any, and begins the measurement of the low level (R176, R181, R185). -/
theorem framingError_eq (b : Byte) (s : State) : framingError b s = s.withLink { s.link with
    receiver := .hunting, waitHigh := true, rxdLow := some { fall := lowLevelFall b s, restarted := false }
    errors := if s.link.receiver = .hunting then s.link.errors else min 255 (s.link.errors + 1) } := by
  rw [framingError, dropIfReceiving_eq]
  rfl

/-- 1,000 µs of low level drop the frame, if any, and the receiver waits for RXD to be high (R185). -/
theorem lowLevelTimeout_eq (s : State) : lowLevelTimeout s = s.withLink { s.link with
    receiver := .hunting, waitHigh := true
    errors := if s.link.receiver = .hunting then s.link.errors else min 255 (s.link.errors + 1) } := by
  rw [lowLevelTimeout, dropIfReceiving_eq]
  rfl

/-- Out of reset and with no wait for RXD to be high, a character without its stop bit is a framing error, after the
judgement of a frame that stood complete (R181). -/
theorem characterReceived_low {s : State} (b : Byte) (run : Running s) (ready : s.link.waitHigh = false) :
    exec (.characterReceived b false) s = .next (framingError b (judgeComplete s)) := by
  have taken : exec (.characterReceived b false) s = .next (takeCharacter b false s) := outOfReset_running _ run
  rw [taken, takeCharacter, ready, if_neg Bool.false_ne_true, if_neg Bool.false_ne_true]

/-! ### Where the low level of a framing error began (R176, R181; log 15) -/

/-- The bits of a byte up to and with its highest 1 are one more than the place of that bit. -/
theorem significantBits_eq_log2 {b : Byte} (h : b ≠ 0) : significantBits b = b.toNat.log2 + 1 := by
  have nonzero : b.toNat ≠ 0 := fun zero => h (BitVec.eq_of_toNat_eq zero)
  have place : b.toNat.log2 < 8 := (Nat.log2_lt nonzero).2 b.isLt
  have reached : (fun i => decide (2 ^ i ≤ b.toNat)) = fun i => decide (i < b.toNat.log2 + 1) := by
    funext i
    rw [decide_eq_decide, Nat.lt_succ_iff, Nat.le_log2 nonzero]
  have count : ∀ k ≤ 8, ((List.range 8).filter (fun i => decide (i < k))).length = k := by decide
  rw [significantBits, reached, count _ place]

/-- The highest 1 of a byte other than 0. -/
theorem significantBits_highest {b : Byte} (h : b ≠ 0) :
    ∃ i < 8, b.getLsbD i = true ∧ (∀ j, i < j → b.getLsbD j = false) ∧ significantBits b = i + 1 := by
  have nonzero : b.toNat ≠ 0 := fun zero => h (BitVec.eq_of_toNat_eq zero)
  refine ⟨b.toNat.log2, (Nat.log2_lt nonzero).2 b.isLt, Nat.testBit_log2 nonzero, fun j above => ?_,
    significantBits_eq_log2 h⟩
  exact Nat.testBit_eq_false_of_lt ((Nat.log2_lt nonzero).1 above)

/-- A character of zeros is low from its start bit on. -/
theorem lowLevelFall_zero (s : State) : lowLevelFall 0 s = s.airClock - 10 := by
  rw [lowLevelFall, if_pos rfl]
  rfl

/-- Otherwise the line fell at the end of the highest data bit that was 1. -/
theorem lowLevelFall_highest {b : Byte} (h : b ≠ 0) (s : State) :
    ∃ i < 8, b.getLsbD i = true ∧ (∀ j, i < j → b.getLsbD j = false) ∧
      lowLevelFall b s = s.airClock - 10 + BitVec.ofNat 32 (i + 2) := by
  obtain ⟨i, small, one, zeros, bits⟩ := significantBits_highest h
  refine ⟨i, small, one, zeros, ?_⟩
  rw [lowLevelFall, if_neg h, bits, show 1 + (i + 1) = i + 2 by omega]
  rfl

/-- With its last data bit 1 the line fell at the start of the stop bit. -/
theorem lowLevelFall_last {b : Byte} (h : b.getLsbD 7 = true) (s : State) : lowLevelFall b s = s.airClock - 1 := by
  have nonzero : b ≠ 0 := by rintro rfl; exact absurd h (by decide)
  obtain ⟨i, small, _, zeros, fall⟩ := lowLevelFall_highest nonzero s
  have last : i = 7 := by
    by_contra other
    exact absurd h (Bool.eq_false_iff.1 (zeros 7 (by omega)))
  rw [fall, last]
  bv_omega

end Sys2Proof.Machine

section
open Sys2Proof Sys2Proof.Machine

/-- Settles O35: the framing error by the bits of its character, and the other three events by what each leaves of the
link controller. -/
theorem framingErrorsAndTimeouts : Obligations.FramingErrorsAndTimeouts := by
  refine ⟨fun b s run ready incomplete => ⟨lowLevelFall b s, ?_, ?_, fun last => lowLevelFall_last last s,
    fun nonzero => lowLevelFall_highest nonzero s⟩, fun s run => ⟨fun t0 since long => ?_, fun w low long => ?_,
    outOfReset_running rxdHighAgain run⟩⟩
  · rw [characterReceived_low b run ready, judgeComplete_incomplete incomplete, framingError_eq]
    rfl
  · rintro rfl
    exact lowLevelFall_zero s
  · exact effect_taken dropFrame run (by rw [frameOverdue, since]; exact decide_eq_true long)
  · have taken : exec .rxdLowTimeout s = .next (lowLevelTimeout s) :=
      effect_taken lowLevelTimeout run (by rw [lowForLong, low]; exact decide_eq_true long)
    rw [taken, lowLevelTimeout_eq]
    rfl
end

end

section
/-! PROOFS. Replies and reports placed, and the requests of the link controller. -/

namespace Sys2Proof.Machine

/-! ### A reply placed (R181, R186, R187, R189) -/

/-- With the transmitter busy a reply waits behind the replies already there. -/
theorem answered_busy {s : State} (kind ticket : Byte) (payload : List Byte) (busy : s.link.sending.isSome = true) :
    answered kind ticket payload s
      = s.withLink { s.link with
          replies := s.link.replies ++ [{ kind := kind, ticket := ticket, payload := payload }] } := by
  obtain ⟨x, sending⟩ := Option.isSome_iff_exists.1 busy
  exact pump_busy sending

/-- With the transmitter FREE the first of the replies, the new one last among them, begins on TXD. -/
theorem answered_free {s : State} {kind ticket : Byte} {payload : List Byte} {f : Frame} {rest : List Frame}
    (free : s.link.sending = none)
    (order : s.link.replies ++ [{ kind := kind, ticket := ticket, payload := payload }] = f :: rest) :
    answered kind ticket payload s = s.withLink { s.link with
      replies := rest, sending := some { frame := f, endsAt := Instant.plus s.airClock f.lineTime } } :=
  pump_reply free order

/-- A REJECT or FULL that finds a place is placed as any reply, and otherwise costs one link error (R186). -/
theorem pump_placeOrDrop (f : Frame) (s : State) :
    pump (placeOrDrop f s) = if s.link.replies.length < 4 then answered f.kind f.ticket f.payload s
      else pump (countLinkError s) := by
  rw [placeOrDrop, apply_ite pump]
  rfl

/-! ### A request that arrives while replies wait (R186, R187) -/

/-- Out of reset and with no restart waiting, a request that arrives is accepted. -/
theorem arrive_accepted {s : State} (k : RequestKind) (ticket : Byte) (payload : List Byte) (run : Running s)
    (mark : s.control.mark = none) :
    arrive k ticket payload s = .next (acceptFrame (requestFrame k ticket payload) s) := by
  rw [arrive, outOfReset_running _ run, requestArrives, mark, Option.isSome_none, if_neg Bool.false_ne_true]

/-- A request with a place in the inbox waits there while 3 replies or more wait (R187). -/
theorem acceptFrame_waits {s : State} (f : Frame) (place : s.link.inbox.length < 4)
    (replies : 3 ≤ s.link.replies.length) :
    acceptFrame f s = s.withLink { s.link with inbox := s.link.inbox ++ [f] } := by
  rw [acceptFrame, if_pos place]
  exact serveInbox_waits (.inr replies)

/-- A request that finds 4 others in the inbox is answered FULL, or dropped (R186). -/
theorem acceptFrame_full {s : State} (f : Frame) (full : 4 ≤ s.link.inbox.length) :
    acceptFrame f s = pump (placeOrDrop (replyFrame f [stFull]) s) := by
  rw [acceptFrame, if_neg (Nat.not_lt.2 full)]

/-! ### STATUS (R194) -/

/-- The entries in a state, counted. -/
theorem trackersIn_eq (s : State) (x : TrackerState) :
    trackersIn s x = s.tracking.entries.countP (fun e => decide (e.state = x)) :=
  List.countP_eq_length_filter.symm

/-! ### CLEAR_FLAGS (R192) -/

/-- A count byte other than 0 and 1 refuses CLEAR_FLAGS. -/
theorem requestClearFlags_badArg {count : Byte} (flags : Byte) (s : State) (nonzero : count ≠ 0) (nonone : count ≠ 1) :
    requestClearFlags flags count s = refuse stBadArg s := by
  simp only [requestClearFlags, boolOfByte, if_neg nonzero, if_neg nonone]

/-- The count byte says whether the link error count is cleared. -/
theorem boolOfByte_count {count : Byte} (good : count = 0 ∨ count = 1) :
    boolOfByte count = some (decide (count = 1)) := by
  rcases good with rfl | rfl <;> rfl

/-- What CLEAR_FLAGS clears and reports under a good count byte. -/
theorem requestClearFlags_good {count : Byte} (flags : Byte) (s : State) (good : count = 0 ∨ count = 1) :
    requestClearFlags flags count s =
      (s.withLink { s.link with
          flags := s.link.flags.cleared flags, errors := if count = 1 then 0 else s.link.errors
          flagsBefore := s.link.flagsBefore.cleared flags
          errorsBefore := if count = 1 then 0 else s.link.errorsBefore },
        [stOk, (s.link.flags.reported s.link.flagsBefore flags).code,
         byteOf (if count = 1 then s.link.errorsBefore else s.link.errors)]) := by
  simp only [requestClearFlags, boolOfByte_count good, decide_eq_true_eq]

end Sys2Proof.Machine

section
open Sys2Proof Sys2Proof.Machine

/-- Settles O9: an arriving request by the inbox and the replies, and a placed reply by the transmitter. -/
theorem requestsWaitAndRepliesArePlaced : Obligations.RequestsWaitAndRepliesArePlaced := by
  refine ⟨fun c f s request run mark replies => ?arrival, fun kind ticket payload s => ⟨?busy, fun free => ?free⟩⟩
  case arrival =>
    obtain ⟨k, ticket, payload, rfl, arrives⟩ := requestOf_arrival request
    rw [arrives, arrive_accepted k ticket payload run mark]
    refine ⟨fun place => ?_, fun full three => ?_, fun full four => ?_⟩
    · rw [acceptFrame_waits _ place replies]
      rfl
    · rw [acceptFrame_full _ full, pump_placeOrDrop, if_pos (by omega)]
      rfl
    · rw [acceptFrame_full _ full, pump_placeOrDrop, if_neg (by omega)]
      rfl
  case busy => exact answered_busy kind ticket payload
  case free =>
    obtain ⟨f, rest, order⟩ := List.exists_cons_of_ne_nil
      (List.append_ne_nil_of_right_ne_nil s.link.replies
        (List.cons_ne_nil { kind := kind, ticket := ticket, payload := payload : Frame } []))
    exact ⟨f, rest, order.symm, answered_free free order⟩

/-- Settles O12: SET_REPORTS by its answer, and a report handed over by its three cases. -/
theorem reportsQueuedByTheirEnables : Obligations.ReportsQueuedByTheirEnables := by
  refine ⟨fun t e s ready => setReports_served ready t e,
    fun l k fields => ⟨l.hand_disabled fields, fun enabled room => ?queued, l.hand_lost fields⟩,
    rfl, fun _ => ⟨rfl, rfl⟩, fun _ _ => ⟨rfl, rfl⟩⟩
  case queued =>
    have code : k.code = 0xC0 + BitVec.ofNat 8 k.bit := BitVec.ofNat_add 0xC0 k.bit
    rw [l.hand_queued fields enabled room, reportFrame, code]
    rfl

/-- Settles O13: CLEAR_FLAGS by its count byte. -/
theorem clearFlagsClearsTheNamedFlags : Obligations.ClearFlagsClearsTheNamedFlags := by
  refine ⟨fun t flags count s ready => ⟨fun good => ?good, fun nonzero nonone => ?bad⟩, fun l => ⟨rfl, rfl, rfl⟩⟩
  case good =>
    rw [clearFlags_served ready, requestClearFlags_good flags s good]
    rfl
  case bad =>
    rw [clearFlags_served ready, requestClearFlags_badArg flags s nonzero nonone]
    rfl

/-- Settles O11: the three replies, the counts of STATUS read as counts over the table and the queue. -/
theorem identTimeAndStatusReplies : Obligations.IdentTimeAndStatusReplies := by
  refine ⟨fun t s ready => ⟨ident_served ready t, time_served ready t⟩, fun t s ready => ?_⟩
  rw [status_served ready]
  simp only [requestStatus, statusFields, trackersIn_eq, laneCount_eq]
  rfl
end

end

section
/-! PROOFS. Wrong lengths, complete frames judged, and characters received. -/

namespace Sys2Proof.Machine

/-! ### Payload lengths (Table 10-3, R187) -/

/-- A count byte of SET_SCAN that does not agree with the length. -/
theorem serveSetScan_badLength {count : Byte} {rest : List Byte} (s : State)
    (bad : ¬ lengthAllowed .setScan (count :: rest)) : serveSetScan count rest s = refuse stBadLength s := by
  have differ : rest.length ≠ count.toNat + 7 := fun agree =>
    bad ⟨count, rfl, by rw [List.length_cons, agree]; omega⟩
  rw [serveSetScan, if_neg differ]

/-- A count byte of SET_RULES that does not agree with the length. -/
theorem serveSetRules_badLength {count : Byte} {rest : List Byte} (s : State)
    (bad : ¬ lengthAllowed .setRules (count :: rest)) : serveSetRules count rest s = refuse stBadLength s := by
  have differ : rest.length ≠ 3 * count.toNat + 2 := fun agree =>
    bad ⟨count, rfl, by rw [List.length_cons, agree]; omega⟩
  rw [serveSetRules, if_neg differ]

/-- A payload of a length that its kind does not allow reaches no block (R187): of the payloads told apart by length,
the one that Table 10-3 allows is excluded and the others are BAD_LENGTH by the table of `serveKind`. -/
theorem serveKind_badLength {k : RequestKind} {payload : List Byte} (s : State) (bad : ¬ lengthAllowed k payload) :
    serveKind k payload s = refuse stBadLength s := by
  cases k
  case setScan =>
    cases payload with
    | nil => rfl
    | cons count rest => exact serveSetScan_badLength s bad
  case setRules =>
    cases payload with
    | nil => rfl
    | cons count rest => exact serveSetRules_badLength s bad
  case armTemplate =>
    rcases payload with _ | ⟨_, _ | ⟨_, _ | ⟨_, _⟩⟩⟩
    case nil => exact absurd (.inl rfl) bad
    case cons.cons.nil => exact absurd (.inr rfl) bad
    all_goals rfl
  case ident | status | time | stop | resume | readChannels | ranking | readRules | dropTemplate | readFault
      | clearFault =>
    rcases payload with _ | ⟨_, _⟩
    · exact absurd rfl bad
    · rfl
  case setReports | restart | start | setMode | setChannel | forget | readTracker | readBookings =>
    rcases payload with _ | ⟨_, _ | ⟨_, _⟩⟩
    case cons.nil => exact absurd rfl bad
    all_goals rfl
  case clearFlags | cancel | seriesClose | setLanes | setEscalation =>
    rcases payload with _ | ⟨_, _ | ⟨_, _ | ⟨_, _⟩⟩⟩
    case cons.cons.nil => exact absurd rfl bad
    all_goals rfl
  case survey =>
    rcases payload with _ | ⟨_, _ | ⟨_, _ | ⟨_, _ | ⟨_, _⟩⟩⟩⟩
    on_goal 4 => exact absurd rfl bad
    all_goals rfl
  case declareBeacon =>
    rcases payload with _ | ⟨_, _ | ⟨_, _ | ⟨_, _ | ⟨_, _ | ⟨_, _ | ⟨_, _⟩⟩⟩⟩⟩⟩
    on_goal 6 => exact absurd rfl bad
    all_goals rfl
  case setDetect =>
    rcases payload with _ | ⟨_, _ | ⟨_, _ | ⟨_, _ | ⟨_, _ | ⟨_, _ | ⟨_, _ | ⟨_, _⟩⟩⟩⟩⟩⟩⟩
    on_goal 7 => exact absurd rfl bad
    all_goals rfl
  case book | seriesOpen =>
    rcases payload with _ | ⟨_, _ | ⟨_, _ | ⟨_, _ | ⟨_, _ | ⟨_, _ | ⟨_, _ | ⟨_, _ | ⟨_, _ | ⟨_, _⟩⟩⟩⟩⟩⟩⟩⟩⟩
    on_goal 9 => exact absurd rfl bad
    all_goals rfl
  case setTracking =>
    rcases payload with _ | ⟨_, _ | ⟨_, _ | ⟨_, _ | ⟨_, _ | ⟨_, _ | ⟨_, _ | ⟨_, _ | ⟨_, _ | ⟨_, _ | ⟨_, _⟩⟩⟩⟩⟩⟩⟩⟩⟩⟩
    on_goal 10 => exact absurd rfl bad
    all_goals rfl

/-! ### A complete frame (R182, R183, R186) -/

/-- A receiver that has taken the CRC byte of a frame. -/
def State.HoldsFrame (s : State) (kind ticket : Byte) (payload : List Byte) (crc : Byte) : Prop :=
  ∃ t0 len, s.link.receiver = .check t0 len kind ticket payload (some crc)

section
variable {s : State} {kind ticket crc : Byte} {payload : List Byte}

/-- FRAME_COMPLETE has the frame judged, the receiver hunting again. -/
theorem frameComplete_judged (run : Running s) (held : s.HoldsFrame kind ticket payload crc) :
    exec .frameComplete s = .next (judge { kind := kind, ticket := ticket, payload := payload } crc (huntAgain s)) := by
  obtain ⟨t0, len, receiver⟩ := held
  have taken : exec .frameComplete s = .next (judgeComplete s) := outOfReset_running _ run
  simp only [taken, judgeComplete, completeFrame, receiver]

/-- A good frame of a request arrives as the request command does (log 18). -/
theorem frameComplete_request {k : RequestKind} (run : Running s)
    (held : s.HoldsFrame k.code ticket payload (crc8 (requestFrame k ticket payload).covered)) :
    exec .frameComplete s = arrive k ticket payload (huntAgain s) := by
  have runs : Running (huntAgain s) := run
  have known : (RequestKind.ofByte k.code).isNone = false := by rw [RequestKind.ofByte_code, Option.isNone_some]
  rw [frameComplete_judged run held, arrive, outOfReset_running _ runs]
  simp only [judge, requestArrives, requestFrame, ne_eq, not_true_eq_false, known, Bool.false_eq_true, if_false]

/-- With no restart waiting, a CRC that differs costs one link error, and a REJECT is placed if the reply queue has a
place (R186). -/
theorem frameComplete_badCrc (run : Running s) (held : s.HoldsFrame kind ticket payload crc)
    (mark : s.control.mark = none)
    (differ : crc ≠ crc8 ({ kind := kind, ticket := ticket, payload := payload } : Frame).covered) :
    exec .frameComplete s = .next (if s.link.replies.length < 4
      then answered 0xFF ticket [stBadCrc, kind] (countLinkError (huntAgain s)) else countLinkError (huntAgain s)) := by
  have unmarked : (huntAgain s).control.mark = none := mark
  rw [frameComplete_judged run held, judge, unmarked, Option.isSome_none, if_neg Bool.false_ne_true, if_pos differ]
  rfl

/-- A byte that is the code of no kind names none. -/
theorem RequestKind.ofByte_unknown (unknown : ∀ k : RequestKind, k.code ≠ kind) : RequestKind.ofByte kind = none :=
  List.find?_eq_none.2 fun k _ => by rw [decide_eq_true_iff]; exact unknown k

/-- A good frame of a kind that Table 10-3 does not name is answered REJECT UNKNOWN_KIND, or dropped (R186). -/
theorem frameComplete_unknownKind (run : Running s) (held : s.HoldsFrame kind ticket payload crc)
    (mark : s.control.mark = none)
    (good : crc = crc8 ({ kind := kind, ticket := ticket, payload := payload } : Frame).covered)
    (unknown : ∀ k : RequestKind, k.code ≠ kind) :
    exec .frameComplete s = .next (if s.link.replies.length < 4
      then answered 0xFF ticket [stUnknownKind, kind] (huntAgain s) else pump (countLinkError (huntAgain s))) := by
  have unmarked : (huntAgain s).control.mark = none := mark
  rw [frameComplete_judged run held, judge, unmarked, Option.isSome_none, if_neg Bool.false_ne_true,
    if_neg (not_not.2 good), RequestKind.ofByte_unknown unknown, if_pos Option.isNone_none, pump_placeOrDrop]
  rfl

end

/-! ### A good character (R181, R184) -/

section
variable {s : State} (b : Byte) (run : Running s) (ready : s.link.waitHigh = false)
include run ready

/-- A good character advances a receiver that holds no complete frame. -/
theorem characterReceived_high
    (incomplete : ∀ t0 len kind ticket bytes crc, s.link.receiver ≠ .check t0 len kind ticket bytes (some crc)) :
    exec (.characterReceived b true) s = .next (receiveByte b s) := by
  have taken : exec (.characterReceived b true) s = .next (takeCharacter b true s) := outOfReset_running _ run
  rw [taken, takeCharacter, ready, if_neg Bool.false_ne_true, if_pos rfl, judgeComplete_incomplete incomplete]

/-- HUNTING takes SYNC and nothing else. -/
theorem characterReceived_hunting (receiver : s.link.receiver = .hunting) :
    exec (.characterReceived b true) s
      = .next (if b = 0xA5 then s.withReceiver (.header (characterStart s) []) else s) := by
  rw [characterReceived_high b run ready (by rw [receiver]; nofun)]
  simp only [receiveByte, receiver]
  rfl

/-- HEADER takes LEN, unless it is above 240, and then KIND and TICKET. -/
theorem characterReceived_header {t0 : Instant} {bytes : List Byte} (receiver : s.link.receiver = .header t0 bytes) :
    exec (.characterReceived b true) s
      = .next (if bytes = [] ∧ 240 < b.toNat then dropFrame s else s.withReceiver (headerNext t0 bytes b)) := by
  rw [characterReceived_high b run ready (by rw [receiver]; nofun)]
  simp only [receiveByte, receiver, Bool.and_eq_true, List.isEmpty_iff, decide_eq_true_eq]
  rfl

/-- PAYLOAD takes a payload byte. -/
theorem characterReceived_payload {t0 : Instant} {len kind ticket : Byte} {bytes : List Byte}
    (receiver : s.link.receiver = .payload t0 len kind ticket bytes) :
    exec (.characterReceived b true) s = .next (s.withReceiver (payloadNext t0 len kind ticket bytes b)) := by
  rw [characterReceived_high b run ready (by rw [receiver]; nofun)]
  simp only [receiveByte, receiver]

/-- CHECK takes the CRC byte. -/
theorem characterReceived_check {t0 : Instant} {len kind ticket : Byte} {bytes : List Byte}
    (receiver : s.link.receiver = .check t0 len kind ticket bytes none) :
    exec (.characterReceived b true) s = .next (s.withReceiver (.check t0 len kind ticket bytes (some b))) := by
  rw [characterReceived_high b run ready (by rw [receiver]; nofun)]
  simp only [receiveByte, receiver]

end

/-- While the receiver waits for RXD to be high no character is taken (R181). -/
theorem characterReceived_waiting {s : State} (b : Byte) (stopHigh : Bool) (run : Running s)
    (waiting : s.link.waitHigh = true) : exec (.characterReceived b stopHigh) s = .next s := by
  have taken : exec (.characterReceived b stopHigh) s = .next (takeCharacter b stopHigh s) := outOfReset_running _ run
  rw [taken, takeCharacter, if_pos waiting]

end Sys2Proof.Machine

section
open Sys2Proof Sys2Proof.Machine

/-- Settles O10: the length is checked before any block, and a good frame on the line arrives as its request. -/
theorem wrongLengthReachesNoBlock : Obligations.WrongLengthReachesNoBlock := by
  intro k ticket payload s bad
  refine ⟨serveKind_badLength s bad, fun ready t0 receiver => ?_⟩
  have hunting : Ready (huntAgain s) := ready
  rw [frameComplete_request ready.1 ⟨t0, _, receiver⟩, arrive_answer hunting rfl (serveKind_badLength _ bad)]
  rfl

/-- Settles O36: a complete frame by the checks of R186. -/
theorem completeFrameIsJudged : Obligations.CompleteFrameIsJudged := by
  rintro t0 kind ticket payload crc s run receiver _ rfl mark
  have held : s.HoldsFrame kind ticket payload crc := ⟨t0, _, receiver⟩
  refine ⟨fun c good request => ?request, ?badCrc, fun good unknown => ?unknownKind⟩
  case request =>
    obtain ⟨k, _, _, same, arrives⟩ := requestOf_arrival request
    cases same
    subst good
    rw [arrives]
    exact frameComplete_request run held
  case badCrc =>
    rintro differ _ rfl
    rw [frameComplete_badCrc run held mark differ]
    refine ⟨fun room => ?_, fun full => ?_⟩
    · rw [if_pos room]
      rfl
    · rw [if_neg (Nat.not_lt.2 full)]
      rfl
  case unknownKind =>
    rw [frameComplete_unknownKind run held mark good unknown]
    refine ⟨fun room => ?_, fun full => ?_⟩
    · rw [if_pos room]
      rfl
    · rw [if_neg (Nat.not_lt.2 full)]
      rfl

/-- Settles O34: a good character by the receiver's state. -/
theorem characterAdvancesTheReceiver : Obligations.CharacterAdvancesTheReceiver := by
  intro b s run
  refine ⟨fun waiting stop => characterReceived_waiting b stop run waiting, fun ready next nextEq => ?_⟩
  obtain rfl : next = s.withReceiver := funext nextEq
  refine ⟨fun hunting sync => ?sync, fun hunting other => ?noSync, fun t0 header => ⟨fun long => ?tooLong,
    fun fits => ?len⟩, fun t0 len header => ?kind, fun t0 len kind header => ?ticket,
    fun t0 len kind ticket bytes payload => ⟨fun more => ?byte, fun last => ?lastByte⟩,
    fun t0 len kind ticket bytes check => characterReceived_check b run ready check⟩
  case sync =>
    rw [characterReceived_hunting b run ready hunting, if_pos sync]
    rfl
  case noSync => rw [characterReceived_hunting b run ready hunting, if_neg other]
  case tooLong =>
    rw [characterReceived_header b run ready header, if_pos ⟨rfl, long⟩]
    rfl
  case len =>
    rw [characterReceived_header b run ready header, if_neg fun bad => Nat.not_lt.2 fits bad.2]
    rfl
  case kind =>
    rw [characterReceived_header b run ready header, if_neg fun bad => List.cons_ne_nil _ _ bad.1]
    rfl
  case ticket =>
    rw [characterReceived_header b run ready header, if_neg fun bad => List.cons_ne_nil _ _ bad.1]
    rfl
  case byte =>
    rw [characterReceived_payload b run ready payload, payloadNext, if_neg (Nat.not_le.2 more)]
  case lastByte =>
    rw [characterReceived_payload b run ready payload, payloadNext, if_pos last]
end

end

section
/-! PROOFS. The step of a queue that is not empty. -/

namespace Sys2Proof.Machine

/-- The step of a queue with a command in front runs that command with the rest of the queue waiting (log 1). -/
theorem step_of_pending_cons {s : State} {c : Instr} {cs : List Instr} (waiting : s.pending = c :: cs) :
    step s = exec c (s.withPending cs) := by
  rw [step, waiting]

end Sys2Proof.Machine

section
open Sys2Proof Sys2Proof.Machine

/-- Settles O1: by the step's branch for a queue that is not empty. -/
theorem stepTakesFrontCommand : Obligations.StepTakesFrontCommand :=
  fun _ _ _ waiting => step_of_pending_cons waiting
end

end
